-- ==== Sys2Proof/Word.lean ====
section
/-! DEFINITION. The machine's plain data: a byte, a 32-bit word (00_scope.md R12), a column of four bytes
(a key-schedule word, 40_tables_and_field.md R149), a 16-byte block seen as its column-major state matrix
(00_scope.md R13, R14), and a group of four 32-bit registers (10_state.md R37 to R39). -/

namespace Sys2Proof

/-- A byte, 8 bits (00_scope.md R12). -/
abbrev Byte := BitVec 8

/-- A word, 32 bits (00_scope.md R10, R12). -/
abbrev Word := BitVec 32

/-- Four bytes, row 0 first: one column of the state matrix (R14), one key-schedule word (R149). -/
structure Column where
  r0 : Byte
  r1 : Byte
  r2 : Byte
  r3 : Byte
deriving DecidableEq, Repr

/-- A 16-byte block as its state matrix, column by column: `b[r + 4*c]` is row `r` of column `c` (R14). -/
structure Block where
  c0 : Column
  c1 : Column
  c2 : Column
  c3 : Column
deriving DecidableEq, Repr

/-- Four 32-bit registers that hold one block: DIN0..3, DOUT0..3 or KEYIN0..3 (10_state.md R32). -/
structure Quad where
  w0 : Word
  w1 : Word
  w2 : Word
  w3 : Word
deriving DecidableEq, Repr

end Sys2Proof
end

