-- ==== Sys2Proof/Machine/State.lean ====
section
/-! DEFINITION. The state of the core with its two output ports (10_state.md), and, marked as the model's own,
what the outside world will still do and has read. Plain data, no function. -/

namespace Sys2Proof.Machine

/-- MODE (10_state.md R44). The value 3 is never produced, so it is not a value here. -/
inductive Mode where
  | idle
  | enc
  | dec
deriving DecidableEq, Repr

/-- The error latched in ERR (60_exceptions.md R360). Codes 7..15 are never latched, so they are no values here. -/
inductive ErrCode where
  | none
  | notimpl
  | seq
  | busy
  | key
  | length
  | operand
deriving DecidableEq, Repr

/-- A token of the output line stream LINES: one content byte, or the end of the line (10_state.md R57). -/
inductive Token where
  | lb (x : Byte)
  | le
deriving DecidableEq, Repr

/-- RK[0]..RK[10], always exactly 11 round keys (10_state.md R41). -/
structure RoundKeys where
  k0 : Block
  k1 : Block
  k2 : Block
  k3 : Block
  k4 : Block
  k5 : Block
  k6 : Block
  k7 : Block
  k8 : Block
  k9 : Block
  k10 : Block
deriving DecidableEq, Repr

/-- The registers of the window (10_state.md R32). -/
inductive Reg where
  | ctrl
  | status
  | cmd
  | errinfo
  | din (k : Fin 4)
  | dout (k : Fin 4)
  | keyin (k : Fin 4)
deriving DecidableEq, Repr

/-- One action of the outside world (log entries 1 and 2). Offsets are from BASE (00_scope.md R16); `width` is the
access width in bytes. -/
inductive HostAction where
  /-- A host write of `v` (30_encoding.md R120's WR). -/
  | write (off width : Nat) (v : Word)
  /-- A host read (30_encoding.md R120's RD). -/
  | read (off width : Nat)
  /-- The host reads STATUS until BUSY = 0 (30_encoding.md R120's POLL): while BUSY = 1 the core has the turn. How many
  STATUS reads that takes is open, and the model logs none of them in `reads` (DESIGN CHOICE, log entry 17). -/
  | poll
  /-- The platform asserts the reset input (70_reset_and_hazards.md R401). -/
  | reset
  /-- The host removes the oldest `n` bytes it has received from SINK (10_state.md R56; log entry 14). -/
  | takeSink (n : Nat)
deriving DecidableEq, Repr

/-- The whole state. Reset values: 70_reset_and_hazards.md R400. -/
structure State where
  /-- CTRL.LENPOL: false is ZERO_PAD, true is REJECT (10_state.md R33). -/
  lenpol : Bool
  /-- ERRINFO (10_state.md R36). -/
  errinfo : Word
  /-- DIN0..DIN3 (10_state.md R37). -/
  din : Quad
  /-- DOUT0..DOUT3 (10_state.md R38). -/
  dout : Quad
  /-- KEYIN0..KEYIN3 (10_state.md R39). -/
  keyin : Quad
  /-- ST (10_state.md R40). -/
  st : Block
  /-- RK[0]..RK[10] (10_state.md R41). -/
  rk : RoundKeys
  /-- KSV (10_state.md R42). -/
  ksv : Bool
  /-- KEY_REQ (10_state.md R43). -/
  keyReq : Bool
  /-- PEND (10_state.md R43). -/
  pend : Word
  /-- MODE (10_state.md R44). -/
  mode : Mode
  /-- EBUF (10_state.md R45). -/
  ebuf : Block
  /-- ECNT (10_state.md R45). -/
  ecnt : BitVec 4
  /-- DBUF (10_state.md R46). -/
  dbuf : Block
  /-- DCNT (10_state.md R46). -/
  dcnt : BitVec 4
  /-- PBUF (10_state.md R47). -/
  pbuf : Block
  /-- PVALID (10_state.md R47). -/
  pvalid : Bool
  /-- LOPEN (10_state.md R48). -/
  lopen : Bool
  /-- BUSY (10_state.md R49). -/
  busy : Bool
  /-- CMDLATCH (10_state.md R49). -/
  cmdlatch : Word
  /-- ERR (10_state.md R50). -/
  err : ErrCode
  /-- SINK, the output byte stream, oldest first (10_state.md R56; log entry 5). -/
  sink : List Byte
  /-- LINES, the output line stream, oldest first (10_state.md R57; log entry 5). -/
  lines : List Token
  /-- THE MODEL'S OWN: what the outside world will still do, oldest first (log entries 1 and 6). -/
  host : List HostAction
  /-- THE MODEL'S OWN: the offset and value of every RD of the host so far, newest last (log entries 1 and 6). The STATUS
  reads inside a POLL are not among them (log entry 17). -/
  reads : List (Nat × Word)
  /-- THE MODEL'S OWN: how many free values DOUT reads have taken (log entries 3 and 6). -/
  draws : Nat
deriving DecidableEq, Repr

/-- Why the machine stops with a fault. Both stops stand only in states that no run from reset reaches. -/
inductive Fault where
  /-- Raised by KEY_EXPAND when PEND holds no command of 30_encoding.md R113, so that 42_key_schedule.md R242 names
  no rule to run. SAFE (log entry 10). -/
  | pendNamesNoCommand
  /-- Raised by KEY_EXPAND when it resumes RK_READ or ST_ADDRK with a round index above 10, for which there is no
  round key (30_encoding.md R117). SAFE (log entry 10). -/
  | noSuchRoundKey
deriving DecidableEq, Repr

/-- Why a step is refused. -/
inductive Refusal where
  /-- Raised by exec for an instruction that has no meaning yet: none in this package. SAFE. -/
  | notModelled (mnemonic : String)
  /-- Raised by a host access of another width than 32 bits or at an offset that is no multiple of 4: "the host step
  has no successor state" (20_memory.md R81). SAFE (log entry 4). -/
  | hostAccessForm
  /-- Raised by a host access at an offset outside the 64-byte window, the only host-addressable space
  (20_memory.md R80). SAFE (log entry 4). -/
  | outsideWindow
deriving DecidableEq, Repr

/-- What a step, or a command's meaning, answers. -/
abbrev Result := Host.Outcome State Fault Refusal

/-- Four bytes 0x00. -/
def zeroColumn : Column := ⟨0, 0, 0, 0⟩

/-- `zeros(16)` (00_scope.md R13). -/
def zeroBlock : Block := ⟨zeroColumn, zeroColumn, zeroColumn, zeroColumn⟩

/-- Four registers that hold 0x00000000. -/
def zeroQuad : Quad := ⟨0, 0, 0, 0⟩

/-- 176 bytes 0x00 (10_state.md R41). -/
def zeroKeys : RoundKeys :=
  ⟨zeroBlock, zeroBlock, zeroBlock, zeroBlock, zeroBlock, zeroBlock, zeroBlock, zeroBlock, zeroBlock, zeroBlock,
    zeroBlock⟩

/-- The state right after reset (70_reset_and_hazards.md R400). SINK and LINES, and the model's own three fields,
have no value there: they start empty (log entries 5 and 6). -/
def State.reset : State where
  lenpol := false
  errinfo := 0
  din := zeroQuad
  dout := zeroQuad
  keyin := zeroQuad
  st := zeroBlock
  rk := zeroKeys
  ksv := false
  keyReq := false
  pend := 0
  mode := .idle
  ebuf := zeroBlock
  ecnt := 0
  dbuf := zeroBlock
  dcnt := 0
  pbuf := zeroBlock
  pvalid := false
  lopen := false
  busy := false
  cmdlatch := 0
  err := .none
  sink := []
  lines := []
  host := []
  reads := []
  draws := 0

end Sys2Proof.Machine
end

