-- ==== Sys2Proof/Machine/Bytes.lean ====
section
/-! DEFINITION. Blocks, columns and registers: indexing by byte and by matrix place (00_scope.md R13, R14) and the
mapping between four 32-bit registers and a block (20_memory.md R84). -/

namespace Sys2Proof.Machine

/-- Row `r` of a column. -/
def colGet (c : Column) (r : Fin 4) : Byte :=
  match r with
  | 0 => c.r0
  | 1 => c.r1
  | 2 => c.r2
  | 3 => c.r3

/-- A column with row `r` replaced. -/
def colSet (c : Column) (r : Fin 4) (v : Byte) : Column :=
  match r with
  | 0 => { c with r0 := v }
  | 1 => { c with r1 := v }
  | 2 => { c with r2 := v }
  | 3 => { c with r3 := v }

/-- Column `c` of the state matrix. -/
def blockCol (b : Block) (c : Fin 4) : Column :=
  match c with
  | 0 => b.c0
  | 1 => b.c1
  | 2 => b.c2
  | 3 => b.c3

/-- A block with column `c` replaced. -/
def blockSetCol (b : Block) (c : Fin 4) (v : Column) : Block :=
  match c with
  | 0 => { b with c0 := v }
  | 1 => { b with c1 := v }
  | 2 => { b with c2 := v }
  | 3 => { b with c3 := v }

/-- The row of byte index `i`: `i mod 4` (R14). -/
def rowOf (i : Fin 16) : Fin 4 := ⟨i.val % 4, Nat.mod_lt _ (by decide)⟩

/-- The column of byte index `i`: `i / 4` (R14). -/
def colOf (i : Fin 16) : Fin 4 := ⟨i.val / 4, by omega⟩

/-- `idx(r, c) = r + 4*c` (00_scope.md R14). -/
def idx (r c : Fin 4) : Fin 16 := ⟨r.val + 4 * c.val, by omega⟩

/-- `s[r][c]` of the state matrix (R14). -/
def blockAt (b : Block) (r c : Fin 4) : Byte := colGet (blockCol b c) r

/-- `b[i]`, byte `i` of the block (R13, R14). -/
def blockGet (b : Block) (i : Fin 16) : Byte := blockAt b (rowOf i) (colOf i)

/-- The block with byte `i` replaced: `b[i] <- v`. -/
def blockSet (b : Block) (i : Fin 16) (v : Byte) : Block :=
  blockSetCol b (colOf i) (colSet (blockCol b (colOf i)) (rowOf i) v)

/-- The four bytes of a column, row 0 first. -/
def colBytes (c : Column) : List Byte := [c.r0, c.r1, c.r2, c.r3]

/-- The sixteen bytes of a block, b[0] first: the order in which SINK takes them (20_memory.md R87). -/
def blockBytes (b : Block) : List Byte := colBytes b.c0 ++ (colBytes b.c1 ++ (colBytes b.c2 ++ colBytes b.c3))

/-- Each byte of a column mapped by `f`. -/
def colMap (f : Byte → Byte) (c : Column) : Column := ⟨f c.r0, f c.r1, f c.r2, f c.r3⟩

/-- Each byte of a block mapped by `f`. -/
def blockMap (f : Byte → Byte) (b : Block) : Block := ⟨colMap f b.c0, colMap f b.c1, colMap f b.c2, colMap f b.c3⟩

/-- Byte-wise XOR of two columns: word XOR (40_tables_and_field.md R149). -/
def colXor (a b : Column) : Column := ⟨a.r0 ^^^ b.r0, a.r1 ^^^ b.r1, a.r2 ^^^ b.r2, a.r3 ^^^ b.r3⟩

/-- Byte-wise XOR of two blocks (00_scope.md R15). -/
def blockXor (a b : Block) : Block := ⟨colXor a.c0 b.c0, colXor a.c1 b.c1, colXor a.c2 b.c2, colXor a.c3 b.c3⟩

/-- A word that holds `x`, its bit 0 at bit `n`, and is 0 elsewhere. -/
def fieldAt {w : Nat} (n : Nat) (x : BitVec w) : Word := x.setWidth 32 <<< n

/-- A 32-bit word as a column: byte 0 is bits 31:24 (20_memory.md R84). -/
def wordToCol (w : Word) : Column :=
  ⟨w.extractLsb' 24 8, w.extractLsb' 16 8, w.extractLsb' 8 8, w.extractLsb' 0 8⟩

/-- A column as a 32-bit word, the first byte most significant (20_memory.md R84). -/
def colToWord (c : Column) : Word := fieldAt 24 c.r0 ||| fieldAt 16 c.r1 ||| fieldAt 8 c.r2 ||| fieldAt 0 c.r3

/-- `w2b`: four words as a block (20_memory.md R84). -/
def w2b (q : Quad) : Block := ⟨wordToCol q.w0, wordToCol q.w1, wordToCol q.w2, wordToCol q.w3⟩

/-- `b2w`: a block as four words (20_memory.md R84). -/
def b2w (b : Block) : Quad := ⟨colToWord b.c0, colToWord b.c1, colToWord b.c2, colToWord b.c3⟩

/-- Register `k` of a group of four. -/
def quadGet (q : Quad) (k : Fin 4) : Word :=
  match k with
  | 0 => q.w0
  | 1 => q.w1
  | 2 => q.w2
  | 3 => q.w3

/-- A group of four registers with register `k` replaced. -/
def quadSet (q : Quad) (k : Fin 4) (v : Word) : Quad :=
  match k with
  | 0 => { q with w0 := v }
  | 1 => { q with w1 := v }
  | 2 => { q with w2 := v }
  | 3 => { q with w3 := v }

end Sys2Proof.Machine
end

