-- ==== Sys2Proof/Machine/Flags.lean ====
section
/-! DEFINITION. The core has no condition codes beyond STATUS (10_state.md R53): the codes of ERR and MODE, and STATUS
and CTRL as the host reads them, assembled from the fields they mirror (10_state.md R33, R34). -/

namespace Sys2Proof.Machine

/-- The 4-bit code of ERR (60_exceptions.md R360). -/
def errBits (e : ErrCode) : BitVec 4 :=
  match e with
  | .none => 0
  | .notimpl => 1
  | .seq => 2
  | .busy => 3
  | .key => 4
  | .length => 5
  | .operand => 6

/-- The 2-bit code of MODE (10_state.md R34, R44). -/
def modeBits (m : Mode) : BitVec 2 :=
  match m with
  | .idle => 0
  | .enc => 1
  | .dec => 2

/-- One bit. -/
def bit (b : Bool) : BitVec 1 := BitVec.ofBool b

/-- STATUS, each field at the place the table gives it; the reserved bits 3, 7:6, 15:12 and 31:26 are 0
(10_state.md R34). -/
def statusWord (s : State) : Word :=
  fieldAt 0 (bit s.busy) ||| fieldAt 1 (bit s.ksv) ||| fieldAt 2 (bit s.keyReq) ||| fieldAt 4 (modeBits s.mode) |||
    fieldAt 8 (errBits s.err) ||| fieldAt 16 s.ecnt ||| fieldAt 20 s.dcnt ||| fieldAt 24 (bit s.pvalid) |||
    fieldAt 25 (bit s.lopen)

/-- CTRL as it reads: LENPOL in bit 0, the reserved bits 0 (10_state.md R33). -/
def ctrlWord (s : State) : Word := fieldAt 0 (bit s.lenpol)

end Sys2Proof.Machine
end

