-- ==== Sys2Proof/Syntax.lean ====
section
/-! DEFINITION. The commands: one constructor per row of spec/opcode_table.json (30_encoding.md R113).
A ROUND argument is kept as the whole byte ARG, because 11..255 are commands too: they raise OperandError (R117). -/

namespace Sys2Proof

/-- A command of the core (30_encoding.md R113), named as the opcode map names it. -/
inductive Instr where
  | nop
  | clrErr
  | abort
  | keyExpand
  | keyFail
  | keyClear
  | rkRead (r : Byte)
  | encBlock
  | decBlock
  | stLoad
  | stSubbytes
  | stShiftrows
  | stMixcolumns
  | stAddrk (r : Byte)
  | stInvsubbytes
  | stInvshiftrows
  | stInvmixcolumns
  | encBegin
  | encByte (b : Byte)
  | encEol
  | encEnd
  | decBegin
  | decByte (b : Byte)
  | decEnd
deriving DecidableEq, Repr

end Sys2Proof
end

