-- ==== Sys2Proof/WellFormed.lean ====
section
/-! DEFINITION. Which commands are well formed: a round index is 0..10 (30_encoding.md R111, R117).
A command that is not well formed still runs: it raises OperandError (60_exceptions.md R369). -/

namespace Sys2Proof

/-- There are exactly 11 round keys, so a round index is at most 10 (30_encoding.md R117). -/
def roundIndexOk (r : Byte) : Bool := decide (r.toNat ≤ 10)

/-- A command is well formed when its ROUND argument, if it has one, names a round key (R111, R117).
BYTE arguments may be any byte; NONE commands carry nothing. -/
def Instr.wellFormed (i : Instr) : Bool :=
  match i with
  | .rkRead r => roundIndexOk r
  | .stAddrk r => roundIndexOk r
  | .nop => true
  | .clrErr => true
  | .abort => true
  | .keyExpand => true
  | .keyFail => true
  | .keyClear => true
  | .encBlock => true
  | .decBlock => true
  | .stLoad => true
  | .stSubbytes => true
  | .stShiftrows => true
  | .stMixcolumns => true
  | .stInvsubbytes => true
  | .stInvshiftrows => true
  | .stInvmixcolumns => true
  | .encBegin => true
  | .encByte _ => true
  | .encEol => true
  | .encEnd => true
  | .decBegin => true
  | .decByte _ => true
  | .decEnd => true

end Sys2Proof
end

