-- ==== Sys2Proof/Decode.lean ====
section
/-! DEFINITION. The command word: its fields (30_encoding.md R110), argument classes (R111), opcode map (R113),
the decoder with its named rejections (R115), and the encoder written from the same map (R114). -/

namespace Sys2Proof

/-- The argument class of an opcode (30_encoding.md R111). -/
inductive ArgClass where
  | none
  | byte
  | round
deriving DecidableEq, Repr

/-- Why a word is a reserved encoding (30_encoding.md R115): RSV bits set (R112), an OP outside R113, or ARG ≠ 0
on a NONE-class opcode. -/
inductive Reserved where
  | rsvBits
  | undefinedOpcode
  | argNotZero
deriving DecidableEq, Repr

/-- What the decoder answers: a command, or a rejection by name (30_encoding.md R115). -/
inductive Decoded where
  | instr (i : Instr)
  | reserved (why : Reserved)
deriving DecidableEq, Repr

/-- OP, bits 7:0 (30_encoding.md R110). -/
def opField (w : Word) : Byte := w.extractLsb' 0 8

/-- ARG, bits 15:8 (30_encoding.md R110). -/
def argField (w : Word) : Byte := w.extractLsb' 8 8

/-- RSV, bits 31:16 (30_encoding.md R110, R112). -/
def rsvField (w : Word) : BitVec 16 := w.extractLsb' 16 16

/-- The argument class of each command (30_encoding.md R113). -/
def argClass (i : Instr) : ArgClass :=
  match i with
  | .rkRead _ => .round
  | .stAddrk _ => .round
  | .encByte _ => .byte
  | .decByte _ => .byte
  | .nop => .none
  | .clrErr => .none
  | .abort => .none
  | .keyExpand => .none
  | .keyFail => .none
  | .keyClear => .none
  | .encBlock => .none
  | .decBlock => .none
  | .stLoad => .none
  | .stSubbytes => .none
  | .stShiftrows => .none
  | .stMixcolumns => .none
  | .stInvsubbytes => .none
  | .stInvshiftrows => .none
  | .stInvmixcolumns => .none
  | .encBegin => .none
  | .encEol => .none
  | .encEnd => .none
  | .decBegin => .none
  | .decEnd => .none

/-- The opcode map read from OP to mnemonic (30_encoding.md R113): the command that OP names, its argument
taken from ARG. An OP outside the map names none. -/
def instrOf (op arg : Byte) : Option Instr :=
  match op.toNat with
  | 0x00 => some .nop
  | 0x01 => some .clrErr
  | 0x02 => some .abort
  | 0x08 => some .keyExpand
  | 0x09 => some .keyFail
  | 0x0A => some .keyClear
  | 0x0B => some (.rkRead arg)
  | 0x10 => some .encBlock
  | 0x11 => some .decBlock
  | 0x20 => some .stLoad
  | 0x21 => some .stSubbytes
  | 0x22 => some .stShiftrows
  | 0x23 => some .stMixcolumns
  | 0x24 => some (.stAddrk arg)
  | 0x25 => some .stInvsubbytes
  | 0x26 => some .stInvshiftrows
  | 0x27 => some .stInvmixcolumns
  | 0x30 => some .encBegin
  | 0x31 => some (.encByte arg)
  | 0x32 => some .encEol
  | 0x33 => some .encEnd
  | 0x38 => some .decBegin
  | 0x39 => some (.decByte arg)
  | 0x3A => some .decEnd
  | _ => none

/-- Decoding a command word, total on every word: the decode check of the core step (30_encoding.md R118),
with the reserved encodings of R115 rejected by name. -/
def decode (w : Word) : Decoded :=
  if rsvField w ≠ 0 then .reserved .rsvBits
  else
    match instrOf (opField w) (argField w) with
    | none => .reserved .undefinedOpcode
    | some i =>
      if argClass i = .none ∧ argField w ≠ 0 then .reserved .argNotZero
      else .instr i

/-- The opcode map read from mnemonic to OP (30_encoding.md R113). -/
def opcode (i : Instr) : Byte :=
  match i with
  | .nop => 0x00
  | .clrErr => 0x01
  | .abort => 0x02
  | .keyExpand => 0x08
  | .keyFail => 0x09
  | .keyClear => 0x0A
  | .rkRead _ => 0x0B
  | .encBlock => 0x10
  | .decBlock => 0x11
  | .stLoad => 0x20
  | .stSubbytes => 0x21
  | .stShiftrows => 0x22
  | .stMixcolumns => 0x23
  | .stAddrk _ => 0x24
  | .stInvsubbytes => 0x25
  | .stInvshiftrows => 0x26
  | .stInvmixcolumns => 0x27
  | .encBegin => 0x30
  | .encByte _ => 0x31
  | .encEol => 0x32
  | .encEnd => 0x33
  | .decBegin => 0x38
  | .decByte _ => 0x39
  | .decEnd => 0x3A

/-- The ARG byte of a command: its argument, or 0 for the NONE class (30_encoding.md R111). -/
def argByte (i : Instr) : Byte :=
  match i with
  | .rkRead r => r
  | .stAddrk r => r
  | .encByte b => b
  | .decByte b => b
  | .nop => 0
  | .clrErr => 0
  | .abort => 0
  | .keyExpand => 0
  | .keyFail => 0
  | .keyClear => 0
  | .encBlock => 0
  | .decBlock => 0
  | .stLoad => 0
  | .stSubbytes => 0
  | .stShiftrows => 0
  | .stMixcolumns => 0
  | .stInvsubbytes => 0
  | .stInvshiftrows => 0
  | .stInvmixcolumns => 0
  | .encBegin => 0
  | .encEol => 0
  | .encEnd => 0
  | .decBegin => 0
  | .decEnd => 0

/-- The word of a command, RSV = 0 (30_encoding.md R110, R114). Each command has exactly one word. -/
def encode (i : Instr) : Word := (0#16 ++ argByte i) ++ opcode i

/-- The command `decode` reads, if it reads one. -/
def decodeInstr (w : Word) : Option Instr :=
  match decode w with
  | .instr i => some i
  | .reserved _ => none

/-- The host's question: the command read from the table's bits `w`, the bits above `nbits` being 0.
A command is one 32-bit word (30_encoding.md R110), so the bits are the word's own. -/
def decodeTableWord (nbits w : Nat) : Option Instr := decodeInstr (BitVec.ofNat 32 (w % 2 ^ nbits))

end Sys2Proof
end

