-- ==== Sys2Proof/Machine/Rounds.lean ====
section
/-! DEFINITION. The stage functions and the two pipelines, pure functions on a 16-byte state: forward
(43_forward_cipher.md R270 to R274) and inverse (44_inverse_cipher.md R310 to R314; the order of the inverse stages
is 90_conflicts.md C5). -/

namespace Sys2Proof.Machine

/-- `SubBytes` (43_forward_cipher.md R270). -/
def subBytes (s : Block) : Block := blockMap sbox s

/-- `ShiftRows`: row r is rotated left by r places, `[r][c] = s[r][(c + r) mod 4]` (43_forward_cipher.md R271). -/
def shiftRows (s : Block) : Block :=
  ⟨⟨s.c0.r0, s.c1.r1, s.c2.r2, s.c3.r3⟩, ⟨s.c1.r0, s.c2.r1, s.c3.r2, s.c0.r3⟩,
    ⟨s.c2.r0, s.c3.r1, s.c0.r2, s.c1.r3⟩, ⟨s.c3.r0, s.c0.r1, s.c1.r2, s.c2.r3⟩⟩

/-- `03 • a = xtime(a) ⊕ a` (43_forward_cipher.md R272). -/
def times3 (a : Byte) : Byte := xtime a ^^^ a

/-- One column times the matrix MF (43_forward_cipher.md R272; 40_tables_and_field.md R148). -/
def mixColumn (a : Column) : Column :=
  ⟨xtime a.r0 ^^^ times3 a.r1 ^^^ a.r2 ^^^ a.r3, a.r0 ^^^ xtime a.r1 ^^^ times3 a.r2 ^^^ a.r3,
    a.r0 ^^^ a.r1 ^^^ xtime a.r2 ^^^ times3 a.r3, times3 a.r0 ^^^ a.r1 ^^^ a.r2 ^^^ xtime a.r3⟩

/-- `MixColumns`: each column on its own (43_forward_cipher.md R272). -/
def mixColumns (s : Block) : Block := ⟨mixColumn s.c0, mixColumn s.c1, mixColumn s.c2, mixColumn s.c3⟩

/-- `AddRoundKey`, which is also `InvAddRoundKey` (43_forward_cipher.md R273; 44_inverse_cipher.md R313). -/
def addRoundKey (s k : Block) : Block := blockXor s k

/-- `InvSubBytes` (44_inverse_cipher.md R310). -/
def invSubBytes (s : Block) : Block := blockMap invSbox s

/-- `InvShiftRows`: row r is rotated right by r places, `[r][c] = s[r][(c - r) mod 4]` (44_inverse_cipher.md R311). -/
def invShiftRows (s : Block) : Block :=
  ⟨⟨s.c0.r0, s.c3.r1, s.c2.r2, s.c1.r3⟩, ⟨s.c1.r0, s.c0.r1, s.c3.r2, s.c2.r3⟩,
    ⟨s.c2.r0, s.c1.r1, s.c0.r2, s.c3.r3⟩, ⟨s.c3.r0, s.c2.r1, s.c1.r2, s.c0.r3⟩⟩

/-- One column times the matrix MI (44_inverse_cipher.md R312; 40_tables_and_field.md R148). -/
def invMixColumn (a : Column) : Column :=
  ⟨gmul 0x0E a.r0 ^^^ gmul 0x0B a.r1 ^^^ gmul 0x0D a.r2 ^^^ gmul 0x09 a.r3,
    gmul 0x09 a.r0 ^^^ gmul 0x0E a.r1 ^^^ gmul 0x0B a.r2 ^^^ gmul 0x0D a.r3,
    gmul 0x0D a.r0 ^^^ gmul 0x09 a.r1 ^^^ gmul 0x0E a.r2 ^^^ gmul 0x0B a.r3,
    gmul 0x0B a.r0 ^^^ gmul 0x0D a.r1 ^^^ gmul 0x09 a.r2 ^^^ gmul 0x0E a.r3⟩

/-- `InvMixColumns`: each column on its own (44_inverse_cipher.md R312). -/
def invMixColumns (s : Block) : Block :=
  ⟨invMixColumn s.c0, invMixColumn s.c1, invMixColumn s.c2, invMixColumn s.c3⟩

/-- `RK[r]`, if there is one: the round keys are RK[0]..RK[10] (10_state.md R41; 30_encoding.md R117). -/
def roundKeyAt (rk : RoundKeys) (r : Nat) : Option Block :=
  match r with
  | 0 => some rk.k0
  | 1 => some rk.k1
  | 2 => some rk.k2
  | 3 => some rk.k3
  | 4 => some rk.k4
  | 5 => some rk.k5
  | 6 => some rk.k6
  | 7 => some rk.k7
  | 8 => some rk.k8
  | 9 => some rk.k9
  | 10 => some rk.k10
  | _ => none

/-- RK[1]..RK[9], the round keys of the nine full rounds, in that order (43_forward_cipher.md R274). -/
def innerKeys (rk : RoundKeys) : List Block :=
  [rk.k1, rk.k2, rk.k3, rk.k4, rk.k5, rk.k6, rk.k7, rk.k8, rk.k9]

/-- One full forward round with round key `k` (43_forward_cipher.md R274). -/
def fullRound (s k : Block) : Block := addRoundKey (mixColumns (shiftRows (subBytes s))) k

/-- `Cipher(b, RK)` (43_forward_cipher.md R274). -/
def cipher (b : Block) (rk : RoundKeys) : Block :=
  addRoundKey (shiftRows (subBytes ((innerKeys rk).foldl fullRound (addRoundKey b rk.k0)))) rk.k10

/-- One inverse round with round key `k`, in the order of 90_conflicts.md C5 (44_inverse_cipher.md R314). -/
def invRound (s k : Block) : Block := invMixColumns (addRoundKey (invSubBytes (invShiftRows s)) k)

/-- `InvCipher(b, RK)`, the round keys 9 down to 1 (44_inverse_cipher.md R314). -/
def invCipher (b : Block) (rk : RoundKeys) : Block :=
  addRoundKey (invSubBytes (invShiftRows ((innerKeys rk).reverse.foldl invRound (addRoundKey b rk.k10)))) rk.k0

end Sys2Proof.Machine
end

