-- ==== Sys2Proof/Machine/KeySchedule.lean ====
section
/-! DEFINITION. The key schedule generator (42_key_schedule.md R230, R231): the 44 words four at a time, words
4r..4r+3 being round key r. -/

namespace Sys2Proof.Machine

/-- Words 4j..4j+3 from words 4j-4..4j-1 (42_key_schedule.md R230): the first of the four takes
`SubWord(RotWord(temp)) ⊕ (RCON[j], 0, 0, 0)`, the others the word before them. -/
def nextRoundKey (j : Nat) (k : Block) : Block :=
  let w0 := colXor k.c0 (colXor (subWord (rotWord k.c3)) ⟨rcon j, 0x00, 0x00, 0x00⟩)
  let w1 := colXor k.c1 w0
  let w2 := colXor k.c2 w1
  let w3 := colXor k.c3 w2
  ⟨w0, w1, w2, w3⟩

/-- Round key `r` of the schedule of key `k`; round key 0 is the raw key (42_key_schedule.md R231). -/
def roundKeyOf (k : Block) (r : Nat) : Block :=
  match r with
  | 0 => k
  | r + 1 => nextRoundKey (r + 1) (roundKeyOf k r)

/-- `KeyExpansion(k)` as the 11 round keys (42_key_schedule.md R230, R231). -/
def keyExpansion (k : Block) : RoundKeys :=
  let k1 := nextRoundKey 1 k
  let k2 := nextRoundKey 2 k1
  let k3 := nextRoundKey 3 k2
  let k4 := nextRoundKey 4 k3
  let k5 := nextRoundKey 5 k4
  let k6 := nextRoundKey 6 k5
  let k7 := nextRoundKey 7 k6
  let k8 := nextRoundKey 8 k7
  let k9 := nextRoundKey 9 k8
  let k10 := nextRoundKey 10 k9
  ⟨k, k1, k2, k3, k4, k5, k6, k7, k8, k9, k10⟩

/-- `word[i]` of `KeyExpansion(k)`: word 4r+c is column c of round key r (42_key_schedule.md R231). -/
def scheduleWord (k : Block) (i : Nat) : Column := blockCol (roundKeyOf k (i / 4)) ⟨i % 4, Nat.mod_lt _ (by decide)⟩

end Sys2Proof.Machine
end

