-- ==== Sys2Proof/Machine/Operands.lean ====
section
/-! DEFINITION. Where commands take their operands and put their block results: DIN and KEYIN as blocks
(10_state.md R37, R39), ST and DOUT (R38, R40), and the range of a round index (30_encoding.md R117). -/

namespace Sys2Proof.Machine

/-- DINBLK, the block DIN0..3 hold (10_state.md R37). -/
def dinBlock (s : State) : Block := w2b s.din

/-- KEYBLK, the key KEYIN0..3 hold (10_state.md R39). -/
def keyBlock (s : State) : Block := w2b s.keyin

/-- DOUT0..3 <- b2w(b) (10_state.md R38). -/
def showBlock (b : Block) (s : State) : State := { s with dout := b2w b }

/-- ST <- b, and DOUT0..3 <- b2w(ST): every command that writes ST also copies it to DOUT (10_state.md R40). -/
def setStage (b : Block) (s : State) : State := { s with st := b, dout := b2w b }

/-- The operand check of the core step: a ROUND-class command needs ARG ≤ 10 (30_encoding.md R117, R118). -/
def operandOk (i : Instr) : Bool :=
  match argClass i with
  | .round => decide ((argByte i).toNat ≤ 10)
  | .byte => true
  | .none => true

end Sys2Proof.Machine
end

