-- ==== Sys2Proof/Machine/Ops.lean ====
section
/-! DEFINITION. The shared operations: raising an error (60_exceptions.md R362), the legality table and the checks of
the core step (30_encoding.md R116, R118), the lazy key request (42_key_schedule.md R240), the clearing operations
(10_state.md R42; 41_stream_adapter.md R180), taking the latched command, and reset (70_reset_and_hazards.md R400). -/

namespace Sys2Proof.Machine

/-- `raise E(info)`: the first error since reset or CLR_ERR is latched, a later one is not recorded
(60_exceptions.md R362). This is all that taking an error does: there is no trap entry (R373). -/
def raise (e : ErrCode) (info : Word) (s : State) : State :=
  { s with
    err := if s.err = .none then e else s.err
    errinfo := if s.err = .none then info else s.errinfo }

/-- ERR <- 0, ERRINFO <- 0: what reopens the latch (45_control.md R341; 60_exceptions.md R374). -/
def clearError (s : State) : State := { s with err := .none, errinfo := 0 }

/-- `ClearSchedule()` (10_state.md R42). -/
def clearSchedule (s : State) : State := { s with rk := zeroKeys, ksv := false }

/-- `ClearSession()` (41_stream_adapter.md R180). -/
def clearSession (s : State) : State :=
  { s with
    mode := .idle
    ebuf := zeroBlock
    ecnt := 0
    dbuf := zeroBlock
    dcnt := 0
    pbuf := zeroBlock
    pvalid := false
    lopen := false }

/-- `EndSession()` (41_stream_adapter.md R180). -/
def endSession (s : State) : State := clearSchedule (clearSession s)

/-- Start of a session: ClearSession, ClearSchedule, MODE <- m (41_stream_adapter.md R182, R190). -/
def beginSession (m : Mode) (s : State) : State := { clearSchedule (clearSession s) with mode := m }

/-- KEYIN0..3 <- 0 (10_state.md R39). -/
def clearKeyin (s : State) : State := { s with keyin := zeroQuad }

/-- KEY_REQ <- 0, PEND <- 0 (42_key_schedule.md R241, R243; 45_control.md R342). -/
def dropRequest (s : State) : State := { s with keyReq := false, pend := 0 }

/-- KEY_REQ <- 1, PEND <- w (42_key_schedule.md R240). -/
def requestKey (w : Word) (s : State) : State := { s with keyReq := true, pend := w }

/-- `NeedSchedule(w)` before `body`: with a schedule the command goes on, without one it asks for the key and stops at
once (42_key_schedule.md R240). The command's word is `encode i` (log entry 11). -/
def needSchedule (i : Instr) (s : State) (body : Result) : Result :=
  if s.ksv then body else .next (requestKey (encode i) s)

/-- The legality table (30_encoding.md R116). KEYWAIT is KEY_REQ = 1 in any MODE. -/
def legal (i : Instr) (m : Mode) (keyReq : Bool) : Bool :=
  match i with
  | .nop => true
  | .clrErr => true
  | .abort => true
  | .keyExpand => keyReq || decide (m = .idle)
  | .keyFail => keyReq
  | .keyClear => !keyReq && decide (m = .idle)
  | .rkRead _ => !keyReq && decide (m = .idle)
  | .encBlock => !keyReq && decide (m = .idle)
  | .decBlock => !keyReq && decide (m = .idle)
  | .stLoad => !keyReq && decide (m = .idle)
  | .stSubbytes => !keyReq && decide (m = .idle)
  | .stShiftrows => !keyReq && decide (m = .idle)
  | .stMixcolumns => !keyReq && decide (m = .idle)
  | .stAddrk _ => !keyReq && decide (m = .idle)
  | .stInvsubbytes => !keyReq && decide (m = .idle)
  | .stInvshiftrows => !keyReq && decide (m = .idle)
  | .stInvmixcolumns => !keyReq && decide (m = .idle)
  | .encBegin => !keyReq && decide (m = .idle)
  | .decBegin => !keyReq && decide (m = .idle)
  | .encByte _ => !keyReq && decide (m = .enc)
  | .encEol => !keyReq && decide (m = .enc)
  | .encEnd => !keyReq && decide (m = .enc)
  | .decByte _ => !keyReq && decide (m = .dec)
  | .decEnd => !keyReq && decide (m = .dec)

/-- The legality check and then the operand check of the core step, before the command's own rule `body`
(30_encoding.md R118; priority 60_exceptions.md R370). -/
def checked (i : Instr) (s : State) (body : Result) : Result :=
  if legal i s.mode s.keyReq then
    if operandOk i then body else .next (raise .operand (encode i) s)
  else .next (raise .seq (encode i) s)

/-- BUSY <- 0, CMDLATCH <- 0: the first thing a core step does (30_encoding.md R118). -/
def takeCommand (s : State) : State := { s with busy := false, cmdlatch := 0 }

/-- CMDLATCH <- w, BUSY <- 1: what a host write of CMD does while BUSY = 0 (10_state.md R35). -/
def latchCommand (w : Word) (s : State) : State := { s with busy := true, cmdlatch := w }

/-- The reset input (70_reset_and_hazards.md R400, R401): every element of the core at its reset value; SINK and LINES
are left alone (R402), and so is what belongs to the outside world (log entry 12). -/
def resetCore (s : State) : State :=
  { State.reset with sink := s.sink, lines := s.lines, host := s.host, reads := s.reads, draws := s.draws }

end Sys2Proof.Machine
end

