-- ==== Sys2Proof/Machine/BlockCommands.lean ====
section
/-! DEFINITION. The block commands ENC_BLOCK and DEC_BLOCK (43_forward_cipher.md R285; 44_inverse_cipher.md R323). -/

namespace Sys2Proof.Machine

/-- ENC_BLOCK (43_forward_cipher.md R285). -/
def runEncBlock (s : State) : Result :=
  needSchedule .encBlock s (.next (setStage (cipher (dinBlock s) s.rk) s))

/-- DEC_BLOCK (44_inverse_cipher.md R323). -/
def runDecBlock (s : State) : Result :=
  needSchedule .decBlock s (.next (setStage (invCipher (dinBlock s) s.rk) s))

/-- The meaning of ENC_BLOCK (43_forward_cipher.md R285). -/
def execEncBlock (s : State) : Result := checked .encBlock s (runEncBlock s)

/-- The meaning of DEC_BLOCK (44_inverse_cipher.md R323). -/
def execDecBlock (s : State) : Result := checked .decBlock s (runDecBlock s)

end Sys2Proof.Machine
end

