-- ==== Sys2Proof/Machine/Control.lean ====
section
/-! DEFINITION. The control commands NOP, CLR_ERR and ABORT (45_control.md R340 to R342). Each command has its rule
(`run…`, the pseudocode of its rule) and its meaning (`exec…`, the rule after the checks of 30_encoding.md R118). -/

namespace Sys2Proof.Machine

/-- NOP: nothing (45_control.md R340). -/
def runNop (s : State) : Result := .next s

/-- CLR_ERR (45_control.md R341). -/
def runClrErr (s : State) : Result := .next (clearError s)

/-- ABORT (45_control.md R342). -/
def runAbort (s : State) : Result := .next (clearKeyin (clearSchedule (clearSession (dropRequest s))))

/-- The meaning of NOP (45_control.md R340). -/
def execNop (s : State) : Result := checked .nop s (runNop s)

/-- The meaning of CLR_ERR (45_control.md R341). -/
def execClrErr (s : State) : Result := checked .clrErr s (runClrErr s)

/-- The meaning of ABORT (45_control.md R342). -/
def execAbort (s : State) : Result := checked .abort s (runAbort s)

end Sys2Proof.Machine
end

