-- ==== Sys2Proof/Machine/EncodeStream.lean ====
section
/-! DEFINITION. The encode direction of the stream adapter (41_stream_adapter.md R182 to R185). -/

namespace Sys2Proof.Machine

/-- SINK.append of one ciphertext block, byte 0 first (10_state.md R56; 20_memory.md R87). -/
def appendSink (b : Block) (s : State) : State := { s with sink := s.sink ++ blockBytes b }

/-- The element that fills the block: the block is emitted in the same step and the buffer emptied
(41_stream_adapter.md R183). -/
def emitFull (e : Byte) (s : State) : State :=
  { appendSink (cipher (blockSet s.ebuf 15 e) s.rk) s with ebuf := zeroBlock, ecnt := 0 }

/-- An element that does not fill the block (41_stream_adapter.md R183). -/
def bufferElement (e : Byte) (s : State) : State :=
  { s with ebuf := blockSet s.ebuf s.ecnt.toFin e, ecnt := s.ecnt + 1 }

/-- `Push(e, w)`, `i` the command that pushes (41_stream_adapter.md R183). -/
def push (i : Instr) (e : Byte) (s : State) : Result :=
  if s.ecnt = 15 then needSchedule i s (.next (emitFull e s)) else .next (bufferElement e s)

/-- The newline byte, 0x0A (41_stream_adapter.md R184). -/
def newline : Byte := 0x0A

/-- ENC_BEGIN (41_stream_adapter.md R182). -/
def runEncBegin (s : State) : Result := .next (beginSession .enc s)

/-- ENC_BYTE b (41_stream_adapter.md R183). -/
def runEncByte (b : Byte) (s : State) : Result := push (.encByte b) b s

/-- ENC_EOL (41_stream_adapter.md R184). -/
def runEncEol (s : State) : Result := push .encEol newline s

/-- ENC_END: the bytes of EBUF from ECNT on are 0x00 (10_state.md R45), which is the tail pad
(41_stream_adapter.md R185). -/
def runEncEnd (s : State) : Result :=
  if s.ecnt = 0 then .next (endSession s)
  else needSchedule .encEnd s (.next (endSession (appendSink (cipher s.ebuf s.rk) s)))

/-- The meaning of ENC_BEGIN (41_stream_adapter.md R182). -/
def execEncBegin (s : State) : Result := checked .encBegin s (runEncBegin s)

/-- The meaning of ENC_BYTE b (41_stream_adapter.md R183). -/
def execEncByte (b : Byte) (s : State) : Result := checked (.encByte b) s (runEncByte b s)

/-- The meaning of ENC_EOL (41_stream_adapter.md R184). -/
def execEncEol (s : State) : Result := checked .encEol s (runEncEol s)

/-- The meaning of ENC_END (41_stream_adapter.md R185). -/
def execEncEnd (s : State) : Result := checked .encEnd s (runEncEnd s)

end Sys2Proof.Machine
end

