-- ==== Sys2Proof/Machine/DecodeStream.lean ====
section
/-! DEFINITION. The decode direction of the stream adapter (41_stream_adapter.md R190 to R196): hold-back, the newline
splitter, trailing-pad removal and the partial-block policy. -/

namespace Sys2Proof.Machine

/-- One plaintext byte to LINES (41_stream_adapter.md R191). -/
def deliverByte (x : Byte) (s : State) : State :=
  if x = newline then { s with lines := s.lines ++ [.le], lopen := false }
  else { s with lines := s.lines ++ [.lb x], lopen := true }

/-- `Deliver(p)`: the bytes of `p` in order (41_stream_adapter.md R191). -/
def deliver (p : List Byte) (s : State) : State :=
  match p with
  | [] => s
  | x :: q => deliver q (deliverByte x s)

/-- `StripZ(p)`: the longest prefix whose last byte is not 0x00 (41_stream_adapter.md R193). -/
def stripZ (p : List Byte) : List Byte :=
  match p with
  | [] => []
  | x :: q => if stripZ q = [] ∧ x = 0x00 then [] else x :: stripZ q

/-- `if PVALID = 1: Deliver(PBUF)` (41_stream_adapter.md R194, R196). -/
def deliverHeld (s : State) : State := if s.pvalid then deliver (blockBytes s.pbuf) s else s

/-- A decrypted block `p`: the block held back before it is delivered and `p` is held back
(41_stream_adapter.md R192, R194, R196). -/
def holdBack (p : Block) (s : State) : State := { deliverHeld s with pbuf := p, pvalid := true }

/-- DEC_BEGIN (41_stream_adapter.md R190). -/
def runDecBegin (s : State) : Result := .next (beginSession .dec s)

/-- DEC_BYTE c when it fills the block (41_stream_adapter.md R194). -/
def decryptFull (c : Byte) (s : State) : State :=
  { holdBack (invCipher (blockSet s.dbuf 15 c) s.rk) s with dbuf := zeroBlock, dcnt := 0 }

/-- DEC_BYTE c when it does not fill the block (41_stream_adapter.md R194). -/
def bufferByte (c : Byte) (s : State) : State :=
  { s with dbuf := blockSet s.dbuf s.dcnt.toFin c, dcnt := s.dcnt + 1 }

/-- DEC_BYTE c (41_stream_adapter.md R194). -/
def runDecByte (c : Byte) (s : State) : Result :=
  if s.dcnt = 15 then needSchedule (.decByte c) s (.next (decryptFull c s)) else .next (bufferByte c s)

/-- `if PVALID = 1: Deliver(StripZ(PBUF))` (41_stream_adapter.md R196). -/
def deliverLast (s : State) : State := if s.pvalid then deliver (stripZ (blockBytes s.pbuf)) s else s

/-- `if LOPEN = 1: LINES.append(LE)` (41_stream_adapter.md R196). -/
def closeLine (s : State) : State := if s.lopen then { s with lines := s.lines ++ [.le] } else s

/-- The end of DEC_END: the last block stripped and delivered, an open line closed, the session ended
(41_stream_adapter.md R196). -/
def finishDecode (s : State) : State := endSession (closeLine (deliverLast s))

/-- DEC_END (41_stream_adapter.md R196): with a partial block, LENPOL decides between LengthError, before the key is
requested, and decrypting the block padded with 0x00. -/
def runDecEnd (s : State) : Result :=
  if s.dcnt = 0 then .next (finishDecode s)
  else if s.lenpol then .next (endSession (raise .length (s.dcnt.setWidth 32) s))
  else needSchedule .decEnd s (.next (finishDecode (holdBack (invCipher s.dbuf s.rk) s)))

/-- The meaning of DEC_BEGIN (41_stream_adapter.md R190). -/
def execDecBegin (s : State) : Result := checked .decBegin s (runDecBegin s)

/-- The meaning of DEC_BYTE c (41_stream_adapter.md R194). -/
def execDecByte (c : Byte) (s : State) : Result := checked (.decByte c) s (runDecByte c s)

/-- The meaning of DEC_END (41_stream_adapter.md R196). -/
def execDecEnd (s : State) : Result := checked .decEnd s (runDecEnd s)

end Sys2Proof.Machine
end

