-- ==== Sys2Proof/Machine/Stage.lean ====
section
/-! DEFINITION. The stage commands (43_forward_cipher.md R275, R280 to R284; 44_inverse_cipher.md R320 to R322): each
replaces ST by a function of ST, or of DIN, and copies it to DOUT. -/

namespace Sys2Proof.Machine

/-- ST_LOAD (43_forward_cipher.md R280). -/
def runStLoad (s : State) : Result := .next (setStage (dinBlock s) s)

/-- ST_SUBBYTES (43_forward_cipher.md R281). -/
def runStSubbytes (s : State) : Result := .next (setStage (subBytes s.st) s)

/-- ST_SHIFTROWS (43_forward_cipher.md R282). -/
def runStShiftrows (s : State) : Result := .next (setStage (shiftRows s.st) s)

/-- ST_MIXCOLUMNS (43_forward_cipher.md R283). -/
def runStMixcolumns (s : State) : Result := .next (setStage (mixColumns s.st) s)

/-- ST_ADDRK r (43_forward_cipher.md R284). The fault is for an index that the operand check of 30_encoding.md R118 has
already turned away; only a resumption can bring one here (log entry 10). -/
def runStAddrk (r : Byte) (s : State) : Result :=
  needSchedule (.stAddrk r) s
    (match roundKeyAt s.rk r.toNat with
      | some k => .next (setStage (addRoundKey s.st k) s)
      | none => .fault .noSuchRoundKey)

/-- ST_INVSUBBYTES (44_inverse_cipher.md R320). -/
def runStInvsubbytes (s : State) : Result := .next (setStage (invSubBytes s.st) s)

/-- ST_INVSHIFTROWS (44_inverse_cipher.md R321). -/
def runStInvshiftrows (s : State) : Result := .next (setStage (invShiftRows s.st) s)

/-- ST_INVMIXCOLUMNS (44_inverse_cipher.md R322). -/
def runStInvmixcolumns (s : State) : Result := .next (setStage (invMixColumns s.st) s)

/-- The meaning of ST_LOAD (43_forward_cipher.md R280). -/
def execStLoad (s : State) : Result := checked .stLoad s (runStLoad s)

/-- The meaning of ST_SUBBYTES (43_forward_cipher.md R281). -/
def execStSubbytes (s : State) : Result := checked .stSubbytes s (runStSubbytes s)

/-- The meaning of ST_SHIFTROWS (43_forward_cipher.md R282). -/
def execStShiftrows (s : State) : Result := checked .stShiftrows s (runStShiftrows s)

/-- The meaning of ST_MIXCOLUMNS (43_forward_cipher.md R283). -/
def execStMixcolumns (s : State) : Result := checked .stMixcolumns s (runStMixcolumns s)

/-- The meaning of ST_ADDRK r (43_forward_cipher.md R284). -/
def execStAddrk (r : Byte) (s : State) : Result := checked (.stAddrk r) s (runStAddrk r s)

/-- The meaning of ST_INVSUBBYTES (44_inverse_cipher.md R320). -/
def execStInvsubbytes (s : State) : Result := checked .stInvsubbytes s (runStInvsubbytes s)

/-- The meaning of ST_INVSHIFTROWS (44_inverse_cipher.md R321). -/
def execStInvshiftrows (s : State) : Result := checked .stInvshiftrows s (runStInvshiftrows s)

/-- The meaning of ST_INVMIXCOLUMNS (44_inverse_cipher.md R322). -/
def execStInvmixcolumns (s : State) : Result := checked .stInvmixcolumns s (runStInvmixcolumns s)

end Sys2Proof.Machine
end

