-- ==== Sys2Proof/Machine/KeyCommands.lean ====
section
/-! DEFINITION. The key commands KEY_EXPAND, KEY_FAIL, KEY_CLEAR and RK_READ (42_key_schedule.md R241 to R245), and the
resumption of the command that waits for the key (R242). -/

namespace Sys2Proof.Machine

/-- The schedule of KEYIN into RK, KSV <- 1, KEYIN <- 0: KEY_EXPAND without an answer to a request
(42_key_schedule.md R241). -/
def loadSchedule (s : State) : State :=
  clearKeyin { s with rk := keyExpansion (keyBlock s), ksv := true }

/-- KEY_FAIL: KeyError(PEND), the request dropped, KEYIN cleared, and a session ended (42_key_schedule.md R243). -/
def runKeyFail (s : State) : Result :=
  let t := clearKeyin (dropRequest (raise .key s.pend s))
  .next (if t.mode = .idle then t else endSession t)

/-- KEY_CLEAR (42_key_schedule.md R244). -/
def runKeyClear (s : State) : Result := .next (clearKeyin (clearSchedule s))

/-- RK_READ r (42_key_schedule.md R245): it requests no key. The fault is for an index that the operand check of
30_encoding.md R118 has already turned away (log entry 10). -/
def runRkRead (r : Byte) (s : State) : Result :=
  match roundKeyAt s.rk r.toNat with
  | some k => .next (showBlock k s)
  | none => .fault .noSuchRoundKey

/-- `Execute(p)` of a resumed command: its own rule from its start, without the checks of 30_encoding.md R118
(42_key_schedule.md R242). KEY_REQ is 0 by then, so a KEY_EXPAND here only loads the schedule. -/
def resume (i : Instr) (s : State) : Result :=
  match i with
  | .nop => runNop s
  | .clrErr => runClrErr s
  | .abort => runAbort s
  | .keyExpand => .next (loadSchedule s)
  | .keyFail => runKeyFail s
  | .keyClear => runKeyClear s
  | .rkRead r => runRkRead r s
  | .encBlock => runEncBlock s
  | .decBlock => runDecBlock s
  | .stLoad => runStLoad s
  | .stSubbytes => runStSubbytes s
  | .stShiftrows => runStShiftrows s
  | .stMixcolumns => runStMixcolumns s
  | .stAddrk r => runStAddrk r s
  | .stInvsubbytes => runStInvsubbytes s
  | .stInvshiftrows => runStInvshiftrows s
  | .stInvmixcolumns => runStInvmixcolumns s
  | .encBegin => runEncBegin s
  | .encByte b => runEncByte b s
  | .encEol => runEncEol s
  | .encEnd => runEncEnd s
  | .decBegin => runDecBegin s
  | .decByte c => runDecByte c s
  | .decEnd => runDecEnd s

/-- The rule that 30_encoding.md R113 names for `p[7:0]`, run with `arg = p[15:8]` (42_key_schedule.md R242). -/
def resumeWord (p : Word) (s : State) : Result :=
  match instrOf (opField p) (argField p) with
  | some i => resume i s
  | none => .fault .pendNamesNoCommand

/-- KEY_EXPAND: the schedule is loaded and, if a command waits, it runs again in the same step
(42_key_schedule.md R241, R242). -/
def runKeyExpand (s : State) : Result :=
  if s.keyReq then resumeWord s.pend (dropRequest (loadSchedule s)) else .next (loadSchedule s)

/-- The meaning of KEY_EXPAND (42_key_schedule.md R241). -/
def execKeyExpand (s : State) : Result := checked .keyExpand s (runKeyExpand s)

/-- The meaning of KEY_FAIL (42_key_schedule.md R243). -/
def execKeyFail (s : State) : Result := checked .keyFail s (runKeyFail s)

/-- The meaning of KEY_CLEAR (42_key_schedule.md R244). -/
def execKeyClear (s : State) : Result := checked .keyClear s (runKeyClear s)

/-- The meaning of RK_READ r (42_key_schedule.md R245). -/
def execRkRead (r : Byte) (s : State) : Result := checked (.rkRead r) s (runRkRead r s)

end Sys2Proof.Machine
end

