-- ==== Sys2Proof/Machine/Dispatch.lean ====
section
/-! DEFINITION. Execute(w) of 30_encoding.md R118: one arm per command, each one call of its meaning. The legality and
operand checks of R118 stand in the meanings (`checked`), the decode check and BUSY in Machine/Step.lean. -/

namespace Sys2Proof.Machine

def exec (i : Instr) (s : State) : Host.Outcome State Fault Refusal :=
  match i with
  | .nop => Sys2Proof.Machine.execNop s
  | .clrErr => Sys2Proof.Machine.execClrErr s
  | .abort => Sys2Proof.Machine.execAbort s
  | .keyExpand => Sys2Proof.Machine.execKeyExpand s
  | .keyFail => Sys2Proof.Machine.execKeyFail s
  | .keyClear => Sys2Proof.Machine.execKeyClear s
  | .rkRead x => Sys2Proof.Machine.execRkRead x s
  | .encBlock => Sys2Proof.Machine.execEncBlock s
  | .decBlock => Sys2Proof.Machine.execDecBlock s
  | .stLoad => Sys2Proof.Machine.execStLoad s
  | .stSubbytes => Sys2Proof.Machine.execStSubbytes s
  | .stShiftrows => Sys2Proof.Machine.execStShiftrows s
  | .stMixcolumns => Sys2Proof.Machine.execStMixcolumns s
  | .stAddrk x => Sys2Proof.Machine.execStAddrk x s
  | .stInvsubbytes => Sys2Proof.Machine.execStInvsubbytes s
  | .stInvshiftrows => Sys2Proof.Machine.execStInvshiftrows s
  | .stInvmixcolumns => Sys2Proof.Machine.execStInvmixcolumns s
  | .encBegin => Sys2Proof.Machine.execEncBegin s
  | .encByte x => Sys2Proof.Machine.execEncByte x s
  | .encEol => Sys2Proof.Machine.execEncEol s
  | .encEnd => Sys2Proof.Machine.execEncEnd s
  | .decBegin => Sys2Proof.Machine.execDecBegin s
  | .decByte x => Sys2Proof.Machine.execDecByte x s
  | .decEnd => Sys2Proof.Machine.execDecEnd s

end Sys2Proof.Machine
end

