-- ==== Sys2Proof/Config.lean ====
section
/-! DEFINITION. What the spec leaves open: the two open parameters BASE and LAT (00_scope.md R11) and the free
value of a DOUT read in the busy window (70_reset_and_hazards.md R411). None has a body, so nothing can be
proved of their values. -/

namespace Sys2Proof.Config

/-- Which 64-byte slot of the host's address space holds the register window (00_scope.md R11; log entry 7). -/
opaque baseSlot : Nat

/-- BASE, the byte address at which the host sees offset 0x00: any 64-byte-aligned address (R11; log entry 7). -/
def base : Nat := 64 * baseSlot

/-- The byte address at which the host sees the register at offset `off` (20_memory.md R80). -/
def hostAddress (off : Nat) : Nat := base + off

/-- LAT less one, per command word (00_scope.md R11, 70_reset_and_hazards.md R420; log entry 8). -/
opaque extraCycles : Word → Nat

/-- LAT, the cycles from a CMD write of `w` to the end of its step: positive, with no bound (R11; log entry 8).
No rule depends on it, and the model has no time (R420). -/
def latency (w : Word) : Nat := extraCycles w + 1

/-- The value of the `n`-th read of a DOUT register made while BUSY = 1: "any 32-bit value"
(70_reset_and_hazards.md R411; log entry 3). -/
opaque freeWord : Nat → Word

end Sys2Proof.Config
end

