-- ==== Sys2Proof/Machine/HostAccess.lean ====
section
/-! DEFINITION. The host's register accesses, the loads and stores of this hardware (45_control.md R343, R344), the
other actions of the outside world, and whose turn it is (log entries 1 and 2). -/

namespace Sys2Proof.Machine

/-- The register map: the register at an aligned offset of the window (10_state.md R32). Outside the window there is
none (20_memory.md R80). -/
def regAt (off : Nat) : Option Reg :=
  match off with
  | 0x00 => some .ctrl
  | 0x04 => some .status
  | 0x08 => some .cmd
  | 0x0C => some .errinfo
  | 0x10 => some (.din 0)
  | 0x14 => some (.din 1)
  | 0x18 => some (.din 2)
  | 0x1C => some (.din 3)
  | 0x20 => some (.dout 0)
  | 0x24 => some (.dout 1)
  | 0x28 => some (.dout 2)
  | 0x2C => some (.dout 3)
  | 0x30 => some (.keyin 0)
  | 0x34 => some (.keyin 1)
  | 0x38 => some (.keyin 2)
  | 0x3C => some (.keyin 3)
  | _ => none

/-- The offset of a register (10_state.md R32). -/
def regOffset (r : Reg) : Nat :=
  match r with
  | .ctrl => 0x00
  | .status => 0x04
  | .cmd => 0x08
  | .errinfo => 0x0C
  | .din k => 0x10 + 4 * k.val
  | .dout k => 0x20 + 4 * k.val
  | .keyin k => 0x30 + 4 * k.val

/-- The registers whose writes the busy window refuses (70_reset_and_hazards.md R410). -/
def busyGuarded (r : Reg) : Bool :=
  match r with
  | .ctrl => true
  | .cmd => true
  | .din _ => true
  | .keyin _ => true
  | .status => false
  | .errinfo => false
  | .dout _ => false

/-- A host write that is not refused (45_control.md R344): STATUS, ERRINFO and DOUT ignore it (20_memory.md R82). -/
def storeReg (r : Reg) (v : Word) (s : State) : State :=
  match r with
  | .ctrl => { s with lenpol := v.getLsbD 0 }
  | .cmd => latchCommand v s
  | .din k => { s with din := quadSet s.din k v }
  | .keyin k => { s with keyin := quadSet s.keyin k v }
  | .status => s
  | .errinfo => s
  | .dout _ => s

/-- The host write step (45_control.md R344): in the busy window a guarded write is dropped and raises BusyError with
the offset (70_reset_and_hazards.md R410; 60_exceptions.md R366). -/
def hostWrite (r : Reg) (v : Word) (s : State) : State :=
  if busyGuarded r && s.busy then raise .busy (BitVec.ofNat 32 (regOffset r)) s else storeReg r v s

/-- The value a host read returns (45_control.md R343): a DOUT read while BUSY = 1 is a free value
(70_reset_and_hazards.md R411; log entry 3), a write-only register reads 0 (20_memory.md R82). -/
def readReg (r : Reg) (s : State) : Word :=
  match r with
  | .ctrl => ctrlWord s
  | .status => statusWord s
  | .cmd => 0
  | .errinfo => s.errinfo
  | .din k => quadGet s.din k
  | .dout k => if s.busy then Config.freeWord s.draws else quadGet s.dout k
  | .keyin _ => 0

/-- Whether a read takes a free value (70_reset_and_hazards.md R411). -/
def readDraws (r : Reg) (s : State) : Bool :=
  match r with
  | .dout _ => s.busy
  | .ctrl => false
  | .status => false
  | .cmd => false
  | .errinfo => false
  | .din _ => false
  | .keyin _ => false

/-- The host read step (45_control.md R343): the core keeps its state, the host has the value in `reads`. -/
def hostRead (r : Reg) (s : State) : State :=
  { s with
    reads := s.reads ++ [(regOffset r, readReg r s)]
    draws := if readDraws r s then s.draws + 1 else s.draws }

/-- An access is admitted when it is 32 bits wide and aligned (20_memory.md R81) and inside the window (R80). -/
def access (off width : Nat) (act : Reg → State) : Result :=
  if width = 4 ∧ off % 4 = 0 then
    match regAt off with
    | some r => .next (act r)
    | none => .refused .outsideWindow
  else .refused .hostAccessForm

/-- One action of the outside world. A poll that finds BUSY = 0 ends at once (30_encoding.md R120); its STATUS reads, whose
number the spec leaves open, are not logged in `reads` (DESIGN CHOICE, log entry 17). -/
def hostStep (a : HostAction) (s : State) : Result :=
  match a with
  | .write off width v => access off width (fun r => hostWrite r v s)
  | .read off width => access off width (fun r => hostRead r s)
  | .poll => .next s
  | .reset => .next (resetCore s)
  | .takeSink n => .next { s with sink := s.sink.drop n }

/-- True when the outside world waits for the core: it polls, or it has nothing more to do (log entry 2). -/
def coreTurn (h : List HostAction) : Bool :=
  match h with
  | [] => true
  | .poll :: _ => true
  | .write _ _ _ :: _ => false
  | .read _ _ :: _ => false
  | .reset :: _ => false
  | .takeSink _ :: _ => false

/-- The step of the outside world: its next action, or nothing when it has none (60_exceptions.md R381: with BUSY = 0
and no host action all state is held). -/
def outsideStep (s : State) : Result :=
  match s.host with
  | [] => .next s
  | a :: rest => hostStep a { s with host := rest }

/-- `h` with the turn given to the core, nothing of it dropped: a poll is put before an action that would come first. -/
def yieldToCore (h : List HostAction) : List HostAction := if coreTurn h then h else .poll :: h

end Sys2Proof.Machine
end

