-- ==== Sys2Proof/Machine/Step.lean ====
section
/-! DEFINITION. One step of the machine: the core step of 30_encoding.md R118 when the core has the turn and BUSY = 1,
else the next action of the outside world (log entries 1 and 2). -/

namespace Sys2Proof.Machine

/-- The core step (30_encoding.md R118): BUSY and CMDLATCH are cleared, the word is decoded, a reserved encoding raises
NotImplemented with the word (60_exceptions.md R364), a command runs. -/
def coreStep (s : State) : Host.Outcome State Fault Refusal :=
  match decode s.cmdlatch with
  | .reserved _ => .next (raise .notimpl s.cmdlatch (takeCommand s))
  | .instr i => exec i (takeCommand s)

/-- One step: the core step is enabled exactly when BUSY = 1 (30_encoding.md R118; 70_reset_and_hazards.md R421) and
the outside world waits for it, else the outside world acts. -/
def step (s : State) : Host.Outcome State Fault Refusal :=
  if s.busy && coreTurn s.host then coreStep s else outsideStep s

/-- `s` with the command whose bits are `w` written to CMD and the turn given to the core, so that the next step runs it
(log entry 13). Nothing of the outside world's list is dropped. -/
def State.withFetchWord (s : State) (nbits w : Nat) : State :=
  { latchCommand (BitVec.ofNat 32 (w % 2 ^ nbits)) s with host := yieldToCore s.host }

end Sys2Proof.Machine
end

