-- ==== Sys2Proof/Machine/HostProgram.lean ====
section
/-! DEFINITION. How the host writes its programs (30_encoding.md R120) and the pseudo-instructions (R121), as lists of
actions for the field `host`. An expansion holds no check of KEY_REQ (70_reset_and_hazards.md R413). -/

namespace Sys2Proof.Machine

/-- `WR reg, value` (30_encoding.md R120). -/
def hostWR (r : Reg) (v : Word) : List HostAction := [.write (regOffset r) 4 v]

/-- `RD reg` (30_encoding.md R120). -/
def hostRD (r : Reg) : List HostAction := [.read (regOffset r) 4]

/-- A mnemonic line: write the command word and poll (30_encoding.md R120). -/
def issue (i : Instr) : List HostAction := hostWR .cmd (encode i) ++ [.poll]

/-- `LOADBLK` (30_encoding.md R121). -/
def loadBlk (b : Block) : List HostAction :=
  hostWR (.din 0) (b2w b).w0 ++ (hostWR (.din 1) (b2w b).w1 ++ (hostWR (.din 2) (b2w b).w2 ++ hostWR (.din 3) (b2w b).w3))

/-- `LOADKEY` (30_encoding.md R121). -/
def loadKey (k : Block) : List HostAction :=
  hostWR (.keyin 0) (b2w k).w0 ++
    (hostWR (.keyin 1) (b2w k).w1 ++ (hostWR (.keyin 2) (b2w k).w2 ++ hostWR (.keyin 3) (b2w k).w3))

/-- `SUPPLYKEY` (30_encoding.md R121). -/
def supplyKey (k : Block) : List HostAction := loadKey k ++ issue .keyExpand

/-- `ENC_TEXT` (30_encoding.md R121). -/
def encText (p : List Byte) : List HostAction := p.flatMap (fun b => issue (.encByte b))

/-- `ENC_LINE` (30_encoding.md R121). -/
def encLine (p : List Byte) : List HostAction := encText p ++ issue .encEol

/-- `DEC_STREAM` (30_encoding.md R121). -/
def decStream (c : List Byte) : List HostAction := c.flatMap (fun b => issue (.decByte b))

/-- `ENCODE_LINES`, the line-sequence mode (30_encoding.md R121; 41_stream_adapter.md R186). -/
def encodeLines (ls : List (List Byte)) : List HostAction := issue .encBegin ++ (ls.flatMap encLine ++ issue .encEnd)

/-- `ENCODE_TEXT`, the single-text-unit mode (30_encoding.md R121; 41_stream_adapter.md R187). -/
def encodeText (p : List Byte) : List HostAction := issue .encBegin ++ (encText p ++ issue .encEnd)

/-- `DECODE` (30_encoding.md R121; 41_stream_adapter.md R195). -/
def decodeBytes (c : List Byte) : List HostAction := issue .decBegin ++ (decStream c ++ issue .decEnd)

end Sys2Proof.Machine
end

