-- ==== Sys2Proof/Safety.lean ====
section
/-! DEFINITION. What the statements are written in: the invariant of the core (10_state.md R42 to R62), the tables of
30_encoding.md as the manual prints them, the chunking law (41_stream_adapter.md R181), the tokens of a text
(10_state.md R57), a call with its key request answered (10_state.md R60), and the end of a run
(70_reset_and_hazards.md R422). -/

namespace Sys2Proof.Machine

/-- The commands that call NeedSchedule (42_key_schedule.md R240). -/
def usesSchedule (i : Instr) : Bool :=
  match i with
  | .encBlock => true
  | .decBlock => true
  | .stAddrk _ => true
  | .encByte _ => true
  | .encEol => true
  | .encEnd => true
  | .decByte _ => true
  | .decEnd => true
  | .nop => false
  | .clrErr => false
  | .abort => false
  | .keyExpand => false
  | .keyFail => false
  | .keyClear => false
  | .rkRead _ => false
  | .stLoad => false
  | .stSubbytes => false
  | .stShiftrows => false
  | .stMixcolumns => false
  | .stInvsubbytes => false
  | .stInvshiftrows => false
  | .stInvmixcolumns => false
  | .encBegin => false
  | .decBegin => false

/-- `w` is the word of a command that passed the checks of 30_encoding.md R118 in mode `m` and uses the schedule: what
PEND holds while KEY_REQ = 1 (10_state.md R43; 42_key_schedule.md R242). -/
def waitsForKey (w : Word) (m : Mode) : Bool :=
  match decode w with
  | .instr i => legal i m false && operandOk i && usesSchedule i
  | .reserved _ => false

/-- The invariants of the core: 10_state.md R62 and the rules it gathers (R42, R43, R45, R46, R47, R57), with what
42_key_schedule.md R242 says of the waiting command. -/
structure State.Inv (s : State) : Prop where
  /-- R62: MODE = IDLE implies empty session buffers. -/
  idle : s.mode = .idle → s.ecnt = 0 ∧ s.dcnt = 0 ∧ s.pvalid = false ∧ s.lopen = false ∧ s.ebuf = zeroBlock ∧
    s.dbuf = zeroBlock ∧ s.pbuf = zeroBlock
  /-- R62: MODE = ENC implies nothing of a decode call. -/
  enc : s.mode = .enc → s.dcnt = 0 ∧ s.pvalid = false ∧ s.lopen = false
  /-- R62: MODE = DEC implies ECNT = 0. -/
  dec : s.mode = .dec → s.ecnt = 0
  /-- R62: KEY_REQ = 1 implies KSV = 0. -/
  request : s.keyReq = true → s.ksv = false
  /-- R62: PEND ≠ 0 exactly when KEY_REQ = 1. -/
  pend : s.pend ≠ 0 ↔ s.keyReq = true
  /-- R62: ERR = 0 implies ERRINFO = 0. -/
  errinfo : s.err = .none → s.errinfo = 0
  /-- R42: KSV = 0 implies every RK byte is 0x00. -/
  schedule : s.ksv = false → s.rk = zeroKeys
  /-- R45: EBUF[i] = 0x00 for every i ≥ ECNT. -/
  ebuf : ∀ i : Fin 16, s.ecnt.toNat ≤ i.val → blockGet s.ebuf i = 0
  /-- R46: the same of DBUF and DCNT. -/
  dbuf : ∀ i : Fin 16, s.dcnt.toNat ≤ i.val → blockGet s.dbuf i = 0
  /-- R47: PVALID = 1 implies MODE = DEC and KSV = 1. -/
  held : s.pvalid = true → s.mode = .dec ∧ s.ksv = true
  /-- R242: what waits passed its checks in the mode that still holds. -/
  waiting : s.keyReq = true → waitsForKey s.pend s.mode = true
  /-- R49, R118: CMDLATCH holds a word only while it waits for its core step. -/
  latch : s.busy = false → s.cmdlatch = 0
  /-- R57: a content byte of LINES is never 0x0A. -/
  content : ∀ x, Token.lb x ∈ s.lines → x ≠ 0x0A

/-- The values of OP that 30_encoding.md R113 defines with class NONE. -/
def noneOps : List Nat :=
  [0x00, 0x01, 0x02, 0x08, 0x09, 0x0A, 0x10, 0x11, 0x20, 0x21, 0x22, 0x23, 0x25, 0x26, 0x27, 0x30, 0x32, 0x33, 0x38,
    0x3A]

/-- The values of OP that 30_encoding.md R113 defines with class BYTE or ROUND. -/
def argOps : List Nat := [0x0B, 0x24, 0x31, 0x39]

/-- `w` is a reserved encoding as 30_encoding.md R115 words it. -/
def ReservedWord (w : Word) : Prop :=
  w.extractLsb' 16 16 ≠ 0 ∨ (w.extractLsb' 0 8).toNat ∉ noneOps ++ argOps ∨
    ((w.extractLsb' 0 8).toNat ∈ noneOps ∧ w.extractLsb' 8 8 ≠ 0)

/-- A column of the legality table (30_encoding.md R116): KEYWAIT is KEY_REQ = 1 in any MODE. -/
inductive Place where
  | idle
  | enc
  | dec
  | keywait
deriving DecidableEq, Repr

/-- The column a state stands in (30_encoding.md R116). -/
def placeOf (s : State) : Place :=
  if s.keyReq then .keywait
  else
    match s.mode with
    | .idle => .idle
    | .enc => .enc
    | .dec => .dec

/-- The rows of the legality table: the columns that say yes (30_encoding.md R116). -/
def legalPlaces (i : Instr) : List Place :=
  match i with
  | .nop => [.idle, .enc, .dec, .keywait]
  | .clrErr => [.idle, .enc, .dec, .keywait]
  | .abort => [.idle, .enc, .dec, .keywait]
  | .keyExpand => [.idle, .keywait]
  | .keyFail => [.keywait]
  | .keyClear => [.idle]
  | .rkRead _ => [.idle]
  | .encBlock => [.idle]
  | .decBlock => [.idle]
  | .stLoad => [.idle]
  | .stSubbytes => [.idle]
  | .stShiftrows => [.idle]
  | .stMixcolumns => [.idle]
  | .stAddrk _ => [.idle]
  | .stInvsubbytes => [.idle]
  | .stInvshiftrows => [.idle]
  | .stInvmixcolumns => [.idle]
  | .encBegin => [.idle]
  | .decBegin => [.idle]
  | .encByte _ => [.enc]
  | .encEol => [.enc]
  | .encEnd => [.enc]
  | .decByte _ => [.dec]
  | .decEnd => [.dec]

/-- In state `s` the command must read RK to transform data: the block-producing paths of 42_key_schedule.md R240. -/
def needsBlock (i : Instr) (s : State) : Bool :=
  match i with
  | .encBlock => true
  | .decBlock => true
  | .stAddrk _ => true
  | .encByte _ => decide (s.ecnt = 15)
  | .encEol => decide (s.ecnt = 15)
  | .encEnd => decide (s.ecnt ≠ 0)
  | .decByte _ => decide (s.dcnt = 15)
  | .decEnd => decide (s.dcnt ≠ 0) && !s.lenpol
  | .nop => false
  | .clrErr => false
  | .abort => false
  | .keyExpand => false
  | .keyFail => false
  | .keyClear => false
  | .rkRead _ => false
  | .stLoad => false
  | .stSubbytes => false
  | .stShiftrows => false
  | .stMixcolumns => false
  | .stInvsubbytes => false
  | .stInvshiftrows => false
  | .stInvmixcolumns => false
  | .encBegin => false
  | .decBegin => false

/-- The matrix MF, row `r`, column `j` (40_tables_and_field.md R148). -/
def mdsForward (r j : Fin 4) : Byte :=
  ((([[0x02, 0x03, 0x01, 0x01], [0x01, 0x02, 0x03, 0x01], [0x01, 0x01, 0x02, 0x03], [0x03, 0x01, 0x01, 0x02]] :
    List (List Byte)).getD r.val []).getD j.val 0)

/-- The matrix MI, row `r`, column `j` (40_tables_and_field.md R148). -/
def mdsInverse (r j : Fin 4) : Byte :=
  ((([[0x0E, 0x0B, 0x0D, 0x09], [0x09, 0x0E, 0x0B, 0x0D], [0x0D, 0x09, 0x0E, 0x0B], [0x0B, 0x0D, 0x09, 0x0E]] :
    List (List Byte)).getD r.val []).getD j.val 0)

/-- Row `r`, column `c` of the product of a 4×4 matrix with a state, over GF(2^8). -/
def matrixAt (m : Fin 4 → Fin 4 → Byte) (s : Block) (r c : Fin 4) : Byte :=
  gmul (m r 0) (blockAt s 0 c) ^^^ gmul (m r 1) (blockAt s 1 c) ^^^ gmul (m r 2) (blockAt s 2 c) ^^^
    gmul (m r 3) (blockAt s 3 c)

/-- The block of the first 16 bytes of `p`, padded on the right with 0x00 (41_stream_adapter.md R181). -/
def padBlock (p : List Byte) : Block :=
  let at4 (n : Nat) : Column := ⟨p.getD n 0, p.getD (n + 1) 0, p.getD (n + 2) 0, p.getD (n + 3) 0⟩
  ⟨at4 0, at4 4, at4 8, at4 12⟩

/-- `Chunk(E, 16, 0x00)` with `n` groups at most (41_stream_adapter.md R181). -/
def chunkLoop (n : Nat) (e : List Byte) : List Block :=
  match n with
  | 0 => []
  | n + 1 => if e = [] then [] else padBlock (e.take 16) :: chunkLoop n (e.drop 16)

/-- `Chunk(E, 16, 0x00)`: the groups of 16, the last padded with 0x00 (41_stream_adapter.md R181). -/
def chunk (e : List Byte) : List Block := chunkLoop e.length e

/-- The token of one plaintext byte (41_stream_adapter.md R191). -/
def tokenOf (x : Byte) : Token := if x = 0x0A then .le else .lb x

/-- LOPEN after the bytes `p` were delivered, `o` being LOPEN before (41_stream_adapter.md R191). -/
def openAfter (p : List Byte) (o : Bool) : Bool := if p = [] then o else decide (p.getLast? ≠ some 0x0A)

/-- The tokens of a line and its end (10_state.md R57). -/
def lineTokens (l : List Byte) : List Token := l.map .lb ++ [.le]

/-- The bytes LINES takes from the decrypted blocks of a call: all of every block, but only `StripZ` of the last
(41_stream_adapter.md R192, R197). -/
def strippedBytes (p : List Block) : List Byte :=
  match p with
  | [] => []
  | [b] => stripZ (blockBytes b)
  | b :: c :: q => blockBytes b ++ strippedBytes (c :: q)

/-- The last LE of a decode call: none after no byte at all or after a newline (41_stream_adapter.md R197). -/
def closingToken (p : List Byte) : List Token := if p = [] ∨ p.getLast? = some 0x0A then [] else [.le]

/-- One command, and the host's answer with key `k` if the command asks for it: KEYIN written, KEY_EXPAND issued
(10_state.md R58, R60). -/
def answering (k : Block) (i : Instr) (s : State) : Result :=
  match exec i s with
  | .next t => if t.keyReq then exec .keyExpand { t with keyin := b2w k } else .next t
  | .fault f => .fault f
  | .refused r => .refused r

/-- The commands of a call, one after another, each key request answered with `k`. -/
def callWith (k : Block) (is : List Instr) (s : State) : Result :=
  match is with
  | [] => .next s
  | i :: rest =>
    match answering k i s with
    | .next t => callWith k rest t
    | .fault f => .fault f
    | .refused r => .refused r

/-- The commands of an encode call in single-text-unit mode (41_stream_adapter.md R187). -/
def encodeCall (e : List Byte) : List Instr := .encBegin :: (e.map .encByte ++ [.encEnd])

/-- The commands of an encode call in line-sequence mode (41_stream_adapter.md R186). -/
def encodeLinesCall (ls : List (List Byte)) : List Instr :=
  .encBegin :: (ls.flatMap (fun l => l.map .encByte ++ [.encEol]) ++ [.encEnd])

/-- The commands of a decode call (41_stream_adapter.md R195). -/
def decodeCall (c : List Byte) : List Instr := .decBegin :: (c.map .decByte ++ [.decEnd])

/-- The ciphertext of a list of blocks: their bytes in order (20_memory.md R87). -/
def cipherBytes (k : Block) (p : List Block) : List Byte :=
  p.flatMap (fun b => blockBytes (cipher b (keyExpansion k)))

/-- The run has ended: the host has issued its last action and BUSY = 0 (70_reset_and_hazards.md R422). -/
def ended (s : State) : Bool := decide (s.host = []) && !s.busy

/-- A call is still open, or a command waits for a key (70_reset_and_hazards.md R422). -/
def callOpen (s : State) : Bool := s.keyReq || decide (s.mode ≠ .idle)

end Sys2Proof.Machine
end

