-- ==== Sys2Proof/Certificates/Slice0/Obligations.lean ====
section
/-! DEFINITION. The statements for the provers, stated and not proved. Each docstring names the rules of spec/ that the
statement formalises; OBLIGATIONS.json lists them. -/

open Sys2Proof Sys2Proof.Machine

/-- Some command words of 30_encoding.md R114 and of the V12 table of 95_test_vectors.md, and the three kinds of reserved
encoding. -/
def Obligations.CommandWordsDecode : Prop :=
  decode 0x00005431 = .instr (.encByte 0x54) ∧ decode 0x00000A24 = .instr (.stAddrk 10) ∧
  decode 0x00000008 = .instr .keyExpand ∧ decode 0x00000A0B = .instr (.rkRead 10) ∧
  decode 0x00000010 = .instr .encBlock ∧ decode 0x00000025 = .instr .stInvsubbytes ∧
  decode 0x0000003A = .instr .decEnd ∧ decode 0x00000000 = .instr .nop ∧
  decode 0x0000FF24 = .instr (.stAddrk 255) ∧ decode 0x00000100 = .reserved .argNotZero ∧
  decode 0x80000030 = .reserved .rsvBits ∧ decode 0x00000040 = .reserved .undefinedOpcode

/-- Decoding the word of a command gives the command, whatever its argument (30_encoding.md R110 to R114). -/
def Obligations.DecodeOfEncode : Prop := ∀ i : Instr, decode (encode i) = .instr i

/-- A word that decodes is the one word of its command: no bit of it is dropped (30_encoding.md R114). -/
def Obligations.DecodedWordIsItsEncoding : Prop := ∀ (w : Word) (i : Instr), decode w = .instr i → encode i = w

/-- A reserved encoding raises NotImplemented with the word and does nothing else (30_encoding.md R112, R115;
60_exceptions.md R364). -/
def Obligations.ReservedWordRaisesNotImplemented : Prop :=
  ∀ s : State, s.busy = true → coreTurn s.host = true → ReservedWord s.cmdlatch →
    step s = .next { s with
      busy := false
      cmdlatch := 0
      err := if s.err = .none then .notimpl else s.err
      errinfo := if s.err = .none then s.cmdlatch else s.errinfo }

/-- The core step: decode check, legality check, operand check, and then the command's own rule (30_encoding.md R118). The
core step is enabled exactly when BUSY = 1; that it is taken when the core has the turn, and that the outside world acts at
every other step, the busy window among them, is the model's choice (log entry 2). -/
def Obligations.CoreStepChecksInOrder : Prop :=
  (∀ s : State, (s.busy = false ∨ coreTurn s.host = false) → step s = outsideStep s) ∧
  ∀ s : State, s.busy = true → coreTurn s.host = true →
    (∀ why, decode s.cmdlatch = .reserved why → step s = .next (raise .notimpl s.cmdlatch (takeCommand s))) ∧
    ∀ i : Instr, decode s.cmdlatch = .instr i →
      (placeOf s ∉ legalPlaces i → step s = .next (raise .seq s.cmdlatch (takeCommand s))) ∧
      (placeOf s ∈ legalPlaces i → argClass i = .round → 10 < (argField s.cmdlatch).toNat →
        step s = .next (raise .operand s.cmdlatch (takeCommand s))) ∧
      (placeOf s ∈ legalPlaces i → (argClass i = .round → (argField s.cmdlatch).toNat ≤ 10) →
        step s = if i = .keyExpand then runKeyExpand (takeCommand s) else resume i (takeCommand s))

/-- A step at which the core has the turn runs the decoded command, with BUSY and CMDLATCH cleared before it
(30_encoding.md R118). -/
def Obligations.StepRunsDecodedCommand : Prop :=
  ∀ (s : State) (i : Instr), s.busy = true → coreTurn s.host = true → decode s.cmdlatch = .instr i →
    step s = exec i { s with busy := false, cmdlatch := 0 }

/-- With BUSY = 0 and nothing from the outside world, all state is held (60_exceptions.md R381; log entry 2). With BUSY = 0,
or in the busy window while the outside world has the turn, its oldest action is the step; it has the turn exactly when that
action is no poll (log entry 2). A poll that ends changes nothing (30_encoding.md R120; log entry 17), and taking `n` bytes from SINK drops
its oldest `n` and changes nothing else (10_state.md R56; log entry 14). -/
def Obligations.StepHoldsWhenIdle : Prop :=
  (∀ s : State, s.busy = false → s.host = [] → step s = .next s) ∧
  (∀ (s : State) (a : HostAction) (rest : List HostAction), s.host = a :: rest → (s.busy = false ∨ a ≠ .poll) →
    step s = hostStep a { s with host := rest }) ∧
  (∀ h : List HostAction, coreTurn h = false ↔ ∃ a rest, h = a :: rest ∧ a ≠ .poll) ∧
  (∀ s : State, hostStep .poll s = .next s) ∧
  ∀ (n : Nat) (s : State), hostStep (.takeSink n) s = .next { s with sink := s.sink.drop n }

/-- A command that the legality table does not allow raises SeqError with its word and does nothing else
(30_encoding.md R116; 60_exceptions.md R365). -/
def Obligations.IllegalCommandRaisesSeqError : Prop :=
  ∀ (i : Instr) (s : State), placeOf s ∉ legalPlaces i →
    exec i s = .next { s with
      err := if s.err = .none then .seq else s.err
      errinfo := if s.err = .none then encode i else s.errinfo }

/-- RK_READ and ST_ADDRK with ARG > 10 raise OperandError with the word, and no key is requested (30_encoding.md R117;
60_exceptions.md R369). -/
def Obligations.RoundIndexAboveTenRaisesOperandError : Prop :=
  ∀ (r : Byte) (s : State), 10 < r.toNat → s.mode = .idle → s.keyReq = false →
    exec (.rkRead r) s = .next { s with
      err := if s.err = .none then .operand else s.err
      errinfo := if s.err = .none then encode (.rkRead r) else s.errinfo } ∧
    exec (.stAddrk r) s = .next { s with
      err := if s.err = .none then .operand else s.err
      errinfo := if s.err = .none then encode (.stAddrk r) else s.errinfo }

/-- The latch records the first error, and once it holds one, neither a command other than CLR_ERR nor a host write
changes ERR or ERRINFO (60_exceptions.md R362). -/
def Obligations.FirstErrorIsKept : Prop :=
  (∀ (e : ErrCode) (info : Word) (s : State),
    (s.err = .none → raise e info s = { s with err := e, errinfo := info }) ∧ (s.err ≠ .none → raise e info s = s)) ∧
  (∀ (i : Instr) (s t : State), s.Inv → s.err ≠ .none → i ≠ .clrErr → exec i s = .next t →
    t.err = s.err ∧ t.errinfo = s.errinfo) ∧
  (∀ (r : Reg) (v : Word) (s : State), s.err ≠ .none →
    (hostWrite r v s).err = s.err ∧ (hostWrite r v s).errinfo = s.errinfo)

/-- NOP, legal in every state, changes nothing (45_control.md R340). -/
def Obligations.NopChangesNothing : Prop := ∀ s : State, exec .nop s = .next s

/-- CLR_ERR, legal in every state, clears ERR and ERRINFO and nothing else (45_control.md R341). -/
def Obligations.ClrErrClearsTheLatch : Prop :=
  ∀ s : State, exec .clrErr s = .next { s with err := .none, errinfo := 0 }

/-- ABORT, legal in every state, drops the request, the session, the schedule and KEYIN, and keeps everything else
(45_control.md R342). -/
def Obligations.AbortReturnsToIdle : Prop :=
  ∀ s : State, exec .abort s = .next { s with
    keyReq := false
    pend := 0
    mode := .idle
    ebuf := zeroBlock
    ecnt := 0
    dbuf := zeroBlock
    dcnt := 0
    pbuf := zeroBlock
    pvalid := false
    lopen := false
    rk := zeroKeys
    ksv := false
    keyin := zeroQuad }

/-- KEY_EXPAND loads the schedule of KEYIN and clears KEYIN; with a request open it then runs the waiting command from
its start (42_key_schedule.md R241). -/
def Obligations.KeyExpandLoadsAndResumes : Prop :=
  (∀ s : State, s.mode = .idle → s.keyReq = false →
    exec .keyExpand s = .next { s with rk := keyExpansion (w2b s.keyin), ksv := true, keyin := zeroQuad }) ∧
  (∀ (s : State) (i : Instr), s.keyReq = true → decode s.pend = .instr i → waitsForKey s.pend s.mode = true →
    exec .keyExpand s = exec i { s with
      rk := keyExpansion (w2b s.keyin)
      ksv := true
      keyin := zeroQuad
      keyReq := false
      pend := 0 })

/-- KEY_FAIL raises KeyError with PEND, drops the request, clears KEYIN and ends a session if one is open
(42_key_schedule.md R243). -/
def Obligations.KeyFailEndsTheCall : Prop :=
  ∀ s : State, s.keyReq = true →
    (s.mode = .idle → exec .keyFail s = .next { s with
      err := if s.err = .none then .key else s.err
      errinfo := if s.err = .none then s.pend else s.errinfo
      keyReq := false
      pend := 0
      keyin := zeroQuad }) ∧
    (s.mode ≠ .idle → exec .keyFail s = .next { s with
      err := if s.err = .none then .key else s.err
      errinfo := if s.err = .none then s.pend else s.errinfo
      keyReq := false
      pend := 0
      keyin := zeroQuad
      mode := .idle
      ebuf := zeroBlock
      ecnt := 0
      dbuf := zeroBlock
      dcnt := 0
      pbuf := zeroBlock
      pvalid := false
      lopen := false
      rk := zeroKeys
      ksv := false })

/-- KEY_CLEAR clears the schedule and KEYIN (42_key_schedule.md R244). -/
def Obligations.KeyClearDestroysSchedule : Prop :=
  ∀ s : State, s.mode = .idle → s.keyReq = false →
    exec .keyClear s = .next { s with rk := zeroKeys, ksv := false, keyin := zeroQuad }

/-- RK_READ r copies RK[r] to DOUT and requests no key, whatever KSV is; above 10 it raises OperandError
(42_key_schedule.md R245). -/
def Obligations.RkReadShowsRoundKey : Prop :=
  ∀ (r : Byte) (s : State), s.mode = .idle → s.keyReq = false →
    (r.toNat ≤ 10 → ∃ k, roundKeyAt s.rk r.toNat = some k ∧ exec (.rkRead r) s = .next { s with dout := b2w k }) ∧
    (10 < r.toNat → exec (.rkRead r) s = .next (raise .operand (encode (.rkRead r)) s))

/-- The words of KeyExpansion: the first four are the key, each later one the word four before it XOR the word before it,
passed through RotWord, SubWord and RCON at multiples of four; words 4r..4r+3 are round key r (42_key_schedule.md R230,
R231). -/
def Obligations.KeyScheduleRecurrence : Prop :=
  ∀ k : Block,
    (∀ i : Fin 4, scheduleWord k i.val = blockCol k i) ∧
    (∀ i : Nat, 4 ≤ i → i < 44 →
      scheduleWord k i = colXor (scheduleWord k (i - 4))
        (if i % 4 = 0 then colXor (subWord (rotWord (scheduleWord k (i - 1)))) ⟨rcon (i / 4), 0x00, 0x00, 0x00⟩
          else scheduleWord k (i - 1))) ∧
    (∀ r : Nat, r ≤ 10 → ∃ b, roundKeyAt (keyExpansion k) r = some b ∧
      ∀ c : Fin 4, blockCol b c = scheduleWord k (4 * r + c.val))

/-- KSV and RK are set only by KEY_EXPAND, and cleared, always together, only by the commands and the reset that
10_state.md R42 lists (R41, R42). The last clause, that every command keeps KSV = 0 implying an all-zero RK, is the invariant
R42 marks as derived from it and R41. -/
def Obligations.OnlyKeyExpandValidatesSchedule : Prop :=
  (∀ (i : Instr) (s t : State), exec i s = .next t → i ≠ .keyExpand →
    (t.ksv = s.ksv ∧ t.rk = s.rk) ∨
    (t.ksv = false ∧ t.rk = zeroKeys ∧
      (i = .keyClear ∨ i = .abort ∨ (i = .keyFail ∧ s.mode ≠ .idle) ∨ i = .encBegin ∨ i = .encEnd ∨ i = .decBegin ∨
        i = .decEnd))) ∧
  (∀ (i : Instr) (s t : State), placeOf s ∈ legalPlaces i → exec i s = .next t →
    (i = .keyClear ∨ i = .abort ∨ (i = .keyFail ∧ s.mode ≠ .idle) ∨ i = .encBegin ∨ i = .decBegin ∨
      ((i = .encEnd ∨ i = .decEnd) ∧ t.keyReq = false)) → t.ksv = false ∧ t.rk = zeroKeys) ∧
  (∀ s : State, (resetCore s).ksv = false ∧ (resetCore s).rk = zeroKeys) ∧
  (∀ (i : Instr) (s t : State), (s.ksv = false → s.rk = zeroKeys) → exec i s = .next t → t.ksv = false → t.rk = zeroKeys)

/-- A command that must read RK while KSV = 0 changes only KEY_REQ and PEND; with KSV = 1 it asks for nothing
(42_key_schedule.md R240). -/
def Obligations.KeyRequestChangesOnlyTheRequest : Prop :=
  ∀ (i : Instr) (s : State), placeOf s ∈ legalPlaces i → operandOk i = true → needsBlock i s = true →
    (s.ksv = false → exec i s = .next { s with keyReq := true, pend := encode i }) ∧
    (s.ksv = true → ∃ t, exec i s = .next t ∧ t.keyReq = false)

/-- ENC_BLOCK and DEC_BLOCK: the block of DIN through the pipeline into ST and DOUT, or a key request
(43_forward_cipher.md R285; 44_inverse_cipher.md R323). -/
def Obligations.BlockCommandsTransformDin : Prop :=
  ∀ s : State, s.mode = .idle → s.keyReq = false →
    (s.ksv = true →
      exec .encBlock s = .next { s with st := cipher (w2b s.din) s.rk, dout := b2w (cipher (w2b s.din) s.rk) } ∧
      exec .decBlock s = .next { s with st := invCipher (w2b s.din) s.rk, dout := b2w (invCipher (w2b s.din) s.rk) }) ∧
    (s.ksv = false →
      exec .encBlock s = .next { s with keyReq := true, pend := 0x00000010 } ∧
      exec .decBlock s = .next { s with keyReq := true, pend := 0x00000011 })

/-- The stage commands that need no key: each replaces ST by its stage function of ST, ST_LOAD by DIN, and copies ST to
DOUT (43_forward_cipher.md R280 to R283; 44_inverse_cipher.md R320 to R322). -/
def Obligations.StageCommandsTransformSt : Prop :=
  ∀ s : State, s.mode = .idle → s.keyReq = false →
    exec .stLoad s = .next { s with st := w2b s.din, dout := b2w (w2b s.din) } ∧
    exec .stSubbytes s = .next { s with st := subBytes s.st, dout := b2w (subBytes s.st) } ∧
    exec .stShiftrows s = .next { s with st := shiftRows s.st, dout := b2w (shiftRows s.st) } ∧
    exec .stMixcolumns s = .next { s with st := mixColumns s.st, dout := b2w (mixColumns s.st) } ∧
    exec .stInvsubbytes s = .next { s with st := invSubBytes s.st, dout := b2w (invSubBytes s.st) } ∧
    exec .stInvshiftrows s = .next { s with st := invShiftRows s.st, dout := b2w (invShiftRows s.st) } ∧
    exec .stInvmixcolumns s = .next { s with st := invMixColumns s.st, dout := b2w (invMixColumns s.st) }

/-- ST_ADDRK r: the range check, then the key request, then AddRoundKey with RK[r] (43_forward_cipher.md R284). That the
range check comes before the key request is a sentence R284 marks as derived from 30_encoding.md R118 (R117;
60_exceptions.md R369). -/
def Obligations.StAddrkAddsRoundKey : Prop :=
  ∀ (r : Byte) (s : State), s.mode = .idle → s.keyReq = false →
    (10 < r.toNat → exec (.stAddrk r) s = .next (raise .operand (encode (.stAddrk r)) s)) ∧
    (r.toNat ≤ 10 → s.ksv = false → exec (.stAddrk r) s = .next { s with keyReq := true, pend := encode (.stAddrk r) }) ∧
    (r.toNat ≤ 10 → s.ksv = true → ∃ k, roundKeyAt s.rk r.toNat = some k ∧
      exec (.stAddrk r) s = .next { s with st := addRoundKey s.st k, dout := b2w (addRoundKey s.st k) })

/-- SubBytes, InvSubBytes and AddRoundKey act on each byte on its own; AddRoundKey is self-inverse
(43_forward_cipher.md R270, R273; 44_inverse_cipher.md R310). -/
def Obligations.BytewiseStages : Prop :=
  ∀ (s k : Block) (i : Fin 16),
    blockGet (subBytes s) i = sbox (blockGet s i) ∧
    blockGet (invSubBytes s) i = invSbox (blockGet s i) ∧
    blockGet (addRoundKey s k) i = blockGet s i ^^^ blockGet k i ∧
    addRoundKey (addRoundKey s k) k = s

/-- ShiftRows rotates row r left by r places and InvShiftRows right by r places (43_forward_cipher.md R271;
44_inverse_cipher.md R311). -/
def Obligations.ShiftRowsRotateRows : Prop :=
  ∀ s : Block,
    (∀ r c : Fin 4, blockAt (shiftRows s) r c = blockAt s r (c + r) ∧
      blockAt (invShiftRows s) r c = blockAt s r (c - r)) ∧
    blockBytes (shiftRows s) =
      [0, 5, 10, 15, 4, 9, 14, 3, 8, 13, 2, 7, 12, 1, 6, 11].map (fun i : Fin 16 => blockGet s i) ∧
    blockBytes (invShiftRows s) =
      [0, 13, 10, 7, 4, 1, 14, 11, 8, 5, 2, 15, 12, 9, 6, 3].map (fun i : Fin 16 => blockGet s i)

/-- MixColumns is the product with MF and InvMixColumns the product with MI, over GF(2^8), where `02 • a = xtime(a)` and
`03 • a = xtime(a) ⊕ a` (43_forward_cipher.md R272; 44_inverse_cipher.md R312; 40_tables_and_field.md R148). -/
def Obligations.MixColumnsAreMatrixProducts : Prop :=
  (∀ a : Byte, gmul 0x02 a = xtime a ∧ gmul 0x03 a = xtime a ^^^ a) ∧
  ∀ (s : Block) (r c : Fin 4),
    blockAt (mixColumns s) r c = matrixAt mdsForward s r c ∧ blockAt (invMixColumns s) r c = matrixAt mdsInverse s r c

/-- Each inverse stage undoes its stage, and is undone by it (44_inverse_cipher.md R310 to R312, sentences the spec marks
derived). -/
def Obligations.InverseStagesUndoForward : Prop :=
  ∀ s : Block,
    invSubBytes (subBytes s) = s ∧ subBytes (invSubBytes s) = s ∧ invShiftRows (shiftRows s) = s ∧
    shiftRows (invShiftRows s) = s ∧ invMixColumns (mixColumns s) = s ∧ mixColumns (invMixColumns s) = s

/-- InvCipher undoes Cipher and Cipher undoes InvCipher, for every block and every eleven round keys, those of a key
among them (44_inverse_cipher.md R315, which the spec marks derived). -/
def Obligations.InverseCipherUndoesCipher : Prop :=
  ∀ (b : Block) (rk : RoundKeys), invCipher (cipher b rk) rk = b ∧ cipher (invCipher b rk) rk = b

/-- The stages of Cipher and of InvCipher in their order (43_forward_cipher.md R274; 44_inverse_cipher.md R314). -/
def Obligations.PipelinesFollowTheirRounds : Prop :=
  ∀ (b : Block) (rk : RoundKeys),
    cipher b rk =
      (let round (k s : Block) : Block := addRoundKey (mixColumns (shiftRows (subBytes s))) k
       addRoundKey (shiftRows (subBytes
        (round rk.k9 (round rk.k8 (round rk.k7 (round rk.k6 (round rk.k5 (round rk.k4 (round rk.k3 (round rk.k2
          (round rk.k1 (addRoundKey b rk.k0)))))))))))) rk.k10) ∧
    invCipher b rk =
      (let round (k s : Block) : Block := invMixColumns (addRoundKey (invSubBytes (invShiftRows s)) k)
       addRoundKey (invSubBytes (invShiftRows
        (round rk.k1 (round rk.k2 (round rk.k3 (round rk.k4 (round rk.k5 (round rk.k6 (round rk.k7 (round rk.k8
          (round rk.k9 (addRoundKey b rk.k10)))))))))))) rk.k0)

/-- ENC_BLOCK, then the host copies DOUT to DIN, then DEC_BLOCK, gives the first DIN back in DOUT
(44_inverse_cipher.md R323, a corner case the spec marks as following from R315). -/
def Obligations.DecBlockUndoesEncBlock : Prop :=
  ∀ s : State, s.mode = .idle → s.keyReq = false → s.ksv = true →
    ∃ t u, exec .encBlock s = .next t ∧ exec .decBlock { t with din := t.dout } = .next u ∧ u.dout = s.din

/-- The field product is commutative and associative, distributes over XOR, has identity 0x01 and zero 0x00
(40_tables_and_field.md R142). -/
def Obligations.FieldProductLaws : Prop :=
  ∀ a b c : Byte,
    gmul a b = gmul b a ∧ gmul (gmul a b) c = gmul a (gmul b c) ∧
    gmul a (b ^^^ c) = gmul a b ^^^ gmul a c ∧ gmul a 0x01 = a ∧ gmul a 0x00 = 0x00

/-- The multiplicative inverse, and SBOX from it by the affine map (40_tables_and_field.md R144, R145). -/
def Obligations.SboxFollowsItsDefinition : Prop :=
  ginv 0x00 = 0x00 ∧
  (∀ a : Byte, a ≠ 0x00 → gmul a (ginv a) = 0x01 ∧ ∀ y : Byte, gmul a y = 0x01 → y = ginv a) ∧
  (∀ a : Byte, sbox a = ginv a ^^^ (ginv a).rotateLeft 1 ^^^ (ginv a).rotateLeft 2 ^^^ (ginv a).rotateLeft 3 ^^^
    (ginv a).rotateLeft 4 ^^^ 0x63) ∧
  (∀ a : Byte, sbox a ≠ a ∧ sbox a ≠ a ^^^ 0xFF)

/-- INV_SBOX inverts SBOX both ways, and RCON[j] is x^(j-1) (40_tables_and_field.md R146, R147). -/
def Obligations.InverseTableAndRoundConstants : Prop :=
  (∀ a : Byte, invSbox (sbox a) = a ∧ sbox (invSbox a) = a) ∧
  ∀ j : Nat, 1 ≤ j → j ≤ 10 → rcon j = gpow 0x02 (j - 1)

/-- ENC_BEGIN and DEC_BEGIN open a session with empty buffers and no schedule, and EndSession closes one
(41_stream_adapter.md R180, R182, R190). -/
def Obligations.SessionsOpenAndClose : Prop :=
  (∀ s : State, s.mode = .idle → s.keyReq = false →
    exec .encBegin s = .next { endSession s with mode := .enc } ∧
    exec .decBegin s = .next { endSession s with mode := .dec }) ∧
  (∀ s : State, endSession s = { s with
    mode := .idle
    ebuf := zeroBlock
    ecnt := 0
    dbuf := zeroBlock
    dcnt := 0
    pbuf := zeroBlock
    pvalid := false
    lopen := false
    rk := zeroKeys
    ksv := false })

/-- ENC_BYTE e and ENC_EOL (with e = 0x0A): the element is buffered, or completes a block that goes to SINK, or waits for
the key with nothing else changed (41_stream_adapter.md R183, R184). -/
def Obligations.EncodeElementBuffersOrEmits : Prop :=
  ∀ (i : Instr) (e : Byte) (s : State), (i = .encByte e ∨ (i = .encEol ∧ e = 0x0A)) → s.mode = .enc → s.keyReq = false →
    (s.ecnt ≠ 15 → exec i s = .next { s with ebuf := blockSet s.ebuf s.ecnt.toFin e, ecnt := s.ecnt + 1 }) ∧
    (s.ecnt = 15 → s.ksv = true → exec i s = .next { s with
      sink := s.sink ++ blockBytes (cipher (blockSet s.ebuf 15 e) s.rk)
      ebuf := zeroBlock
      ecnt := 0 }) ∧
    (s.ecnt = 15 → s.ksv = false → exec i s = .next { s with keyReq := true, pend := encode i })

/-- ENC_END: nothing is appended when ECNT = 0, else the block padded with 0x00, once the key is there; the session ends
(41_stream_adapter.md R185). -/
def Obligations.EncEndClosesTheCall : Prop :=
  ∀ s : State, s.mode = .enc → s.keyReq = false →
    (s.ecnt = 0 → exec .encEnd s = .next (endSession s)) ∧
    (s.ecnt ≠ 0 → s.ksv = true →
      exec .encEnd s = .next (endSession { s with sink := s.sink ++ blockBytes (cipher s.ebuf s.rk) })) ∧
    (s.ecnt ≠ 0 → s.ksv = false → exec .encEnd s = .next { s with keyReq := true, pend := 0x00000033 })

/-- DEC_BYTE c: the byte is buffered, or completes a block that is decrypted and held back while the block held before is
delivered, or waits for the key (41_stream_adapter.md R192, R194). -/
def Obligations.DecByteHoldsBlocksBack : Prop :=
  ∀ (c : Byte) (s : State), s.mode = .dec → s.keyReq = false →
    (s.dcnt ≠ 15 → exec (.decByte c) s = .next { s with dbuf := blockSet s.dbuf s.dcnt.toFin c, dcnt := s.dcnt + 1 }) ∧
    (s.dcnt = 15 → s.ksv = true → s.pvalid = false → exec (.decByte c) s = .next { s with
      pbuf := invCipher (blockSet s.dbuf 15 c) s.rk
      pvalid := true
      dbuf := zeroBlock
      dcnt := 0 }) ∧
    (s.dcnt = 15 → s.ksv = true → s.pvalid = true → exec (.decByte c) s = .next { s with
      lines := s.lines ++ (blockBytes s.pbuf).map tokenOf
      lopen := openAfter (blockBytes s.pbuf) s.lopen
      pbuf := invCipher (blockSet s.dbuf 15 c) s.rk
      pvalid := true
      dbuf := zeroBlock
      dcnt := 0 }) ∧
    (s.dcnt = 15 → s.ksv = false → exec (.decByte c) s = .next { s with keyReq := true, pend := encode (.decByte c) })

/-- DEC_END: what it delivers, its final LE, its two length policies and its key request (41_stream_adapter.md R196;
60_exceptions.md R368). -/
def Obligations.DecEndDeliversTheRest : Prop :=
  ∀ s : State, s.mode = .dec → s.keyReq = false →
    (s.dcnt = 0 →
      let p := if s.pvalid then stripZ (blockBytes s.pbuf) else []
      exec .decEnd s = .next (endSession { s with
        lines := s.lines ++ p.map tokenOf ++ (if openAfter p s.lopen then [.le] else []) })) ∧
    (s.dcnt ≠ 0 → s.lenpol = true → exec .decEnd s = .next (endSession { s with
      err := if s.err = .none then .length else s.err
      errinfo := if s.err = .none then BitVec.ofNat 32 s.dcnt.toNat else s.errinfo })) ∧
    (s.dcnt ≠ 0 → s.lenpol = false → s.ksv = true →
      let p := (if s.pvalid then blockBytes s.pbuf else []) ++ stripZ (blockBytes (invCipher s.dbuf s.rk))
      exec .decEnd s = .next (endSession { s with
        lines := s.lines ++ p.map tokenOf ++ (if openAfter p s.lopen then [.le] else []) })) ∧
    (s.dcnt ≠ 0 → s.lenpol = false → s.ksv = false → exec .decEnd s = .next { s with keyReq := true, pend := 0x0000003A })

/-- Deliver splits at 0x0A: one token a byte, LOPEN left by the last byte, nothing else changed
(41_stream_adapter.md R191). -/
def Obligations.DeliverSplitsAtNewlines : Prop :=
  ∀ (p : List Byte) (s : State),
    deliver p s = { s with lines := s.lines ++ p.map tokenOf, lopen := openAfter p s.lopen }

/-- StripZ(p) is the longest prefix of `p` whose last byte is not 0x00 (41_stream_adapter.md R193). -/
def Obligations.StripZIsTheLongestPrefix : Prop :=
  ∀ p : List Byte,
    stripZ p <+: p ∧ (stripZ p).getLast? ≠ some 0x00 ∧
    ∀ q : List Byte, q <+: p → q.getLast? ≠ some 0x00 → q.length ≤ (stripZ p).length

/-- The encode output law: a call fed `e`, its key request answered with `k`, appends to SINK the ciphertext of each group
of Chunk(e, 16, 0x00), and closes (41_stream_adapter.md R188, which the spec marks derived). -/
def Obligations.EncodeCallOutput : Prop :=
  ∀ (k : Block) (e : List Byte) (s : State), s.mode = .idle → s.keyReq = false →
    ∃ t, callWith k (encodeCall e) s = .next t ∧ t.sink = s.sink ++ cipherBytes k (chunk e) ∧ t.lines = s.lines ∧
      callOpen t = false ∧ t.err = s.err

/-- The decode output law: under ZERO_PAD, or for a length that is a multiple of 16, LINES receives the split plaintext,
the last block stripped; under REJECT the call ends with LengthError after the blocks before the held one
(41_stream_adapter.md R197, which the spec marks derived). -/
def Obligations.DecodeCallOutput : Prop :=
  ∀ (k : Block) (c : List Byte) (s : State), s.mode = .idle → s.keyReq = false →
    let p := (chunk c).map (fun b => invCipher b (keyExpansion k))
    (s.lenpol = false ∨ c.length % 16 = 0 →
      ∃ t, callWith k (decodeCall c) s = .next t ∧
        t.lines = s.lines ++ (strippedBytes p).map tokenOf ++ closingToken (strippedBytes p) ∧ t.sink = s.sink ∧
        callOpen t = false ∧ t.err = s.err) ∧
    (s.lenpol = true → c.length % 16 ≠ 0 →
      ∃ t, callWith k (decodeCall c) s = .next t ∧
        t.lines = s.lines ++ (p.dropLast.dropLast.flatMap blockBytes).map tokenOf ∧ t.sink = s.sink ∧
        callOpen t = false ∧ t.err = if s.err = .none then .length else s.err)

/-- The round-trip law: lines without 0x0A, encoded in line-sequence mode and decoded with the same key, come back as
exactly those lines (41_stream_adapter.md R198, which the spec marks derived). -/
def Obligations.LinesRoundTrip : Prop :=
  ∀ (k : Block) (ls : List (List Byte)) (s : State), (∀ l ∈ ls, (0x0A : Byte) ∉ l) → s.mode = .idle → s.keyReq = false →
    ∃ t c u, callWith k (encodeLinesCall ls) s = .next t ∧ t.sink = s.sink ++ c ∧ callWith k (decodeCall c) t = .next u ∧
      u.lines = s.lines ++ ls.flatMap lineTokens ∧ u.sink = t.sink ∧ callOpen u = false ∧ u.err = s.err

/-- The core only appends to SINK and LINES, at most one 16-byte block and 33 tokens a command (10_state.md R56, R57;
70_reset_and_hazards.md R421, where the spec marks the bounds derived). -/
def Obligations.PortsOnlyGrow : Prop :=
  ∀ (i : Instr) (s t : State), exec i s = .next t →
    s.sink <+: t.sink ∧ s.lines <+: t.lines ∧
    (t.sink.length = s.sink.length ∨ t.sink.length = s.sink.length + 16) ∧ t.lines.length ≤ s.lines.length + 33

/-- Every core step that starts in a state with the invariant ends in a next state with BUSY = 0: no command stalls,
faults or is refused (70_reset_and_hazards.md R421). Outside the invariant, in states that no run reaches, KEY_EXPAND
faults where PEND names no command or a round key that does not exist (log entry 10). -/
def Obligations.CoreStepAlwaysCompletes : Prop :=
  (∀ s : State, s.Inv → s.busy = true → coreTurn s.host = true →
    ∃ t, step s = .next t ∧ t.busy = false ∧ t.host = s.host) ∧
  ∀ s : State, s.keyReq = true →
    (instrOf (opField s.pend) (argField s.pend) = none → exec .keyExpand s = .fault .pendNamesNoCommand) ∧
    ∀ r : Byte, 10 < r.toNat →
      (instrOf (opField s.pend) (argField s.pend) = some (.rkRead r) ∨
        instrOf (opField s.pend) (argField s.pend) = some (.stAddrk r)) →
      exec .keyExpand s = .fault .noSuchRoundKey

/-- Every element of the core after reset, be it the state `State.reset` or what the reset input leaves at any time; the
reset input leaves SINK and LINES as they were (70_reset_and_hazards.md R400, R402). -/
def Obligations.ResetValues : Prop :=
  (∀ r : Reg, readReg r State.reset = 0x00000000) ∧
  (∀ s : State, ∃ t, hostStep .reset s = .next t ∧ t.sink = s.sink ∧ t.lines = s.lines) ∧
  (∀ s t : State, (t = State.reset ∨ hostStep .reset s = .next t) →
    t.lenpol = false ∧ t.errinfo = 0 ∧ t.din = zeroQuad ∧ t.dout = zeroQuad ∧ t.keyin = zeroQuad ∧ t.st = zeroBlock ∧
    t.rk = zeroKeys ∧ t.ksv = false ∧ t.keyReq = false ∧ t.pend = 0 ∧ t.mode = .idle ∧ t.ebuf = zeroBlock ∧ t.ecnt = 0 ∧
    t.dbuf = zeroBlock ∧ t.dcnt = 0 ∧ t.pbuf = zeroBlock ∧ t.pvalid = false ∧ t.lopen = false ∧ t.busy = false ∧
    t.cmdlatch = 0 ∧ t.err = .none ∧ statusWord t = 0x00000000)

/-- A host write to CTRL, CMD, DIN or KEYIN while BUSY = 1 is dropped and raises BusyError with the offset; a write to
STATUS, ERRINFO or DOUT changes nothing at any time (70_reset_and_hazards.md R410; 60_exceptions.md R366). -/
def Obligations.BusyWindowDropsWrites : Prop :=
  ∀ (off : Nat) (v : Word) (s : State), s.busy = true →
    (off ∈ [0x00, 0x08, 0x10, 0x14, 0x18, 0x1C, 0x30, 0x34, 0x38, 0x3C] →
      hostStep (.write off 4 v) s = .next { s with
        err := if s.err = .none then .busy else s.err
        errinfo := if s.err = .none then BitVec.ofNat 32 off else s.errinfo }) ∧
    (off ∈ [0x04, 0x0C, 0x20, 0x24, 0x28, 0x2C] → hostStep (.write off 4 v) s = .next s)

/-- Host writes while BUSY = 0: CTRL takes LENPOL from bit 0, CMD latches a command, DIN and KEYIN store the word, the
read-only registers ignore it (45_control.md R344, which the spec marks derived). -/
def Obligations.HostWriteStores : Prop :=
  ∀ (v : Word) (s : State), s.busy = false →
    hostStep (.write 0x00 4 v) s = .next { s with lenpol := v.getLsbD 0 } ∧
    hostStep (.write 0x08 4 v) s = .next { s with busy := true, cmdlatch := v } ∧
    (∀ k : Fin 4, hostStep (.write (0x10 + 4 * k.val) 4 v) s = .next { s with din := quadSet s.din k v } ∧
      quadGet (quadSet s.din k v) k = v ∧ ∀ j : Fin 4, j ≠ k → quadGet (quadSet s.din k v) j = quadGet s.din j) ∧
    (∀ k : Fin 4, hostStep (.write (0x30 + 4 * k.val) 4 v) s = .next { s with keyin := quadSet s.keyin k v }) ∧
    (∀ off ∈ [0x04, 0x0C, 0x20, 0x24, 0x28, 0x2C], hostStep (.write off 4 v) s = .next s)

/-- Host reads: the value of each register, 0 for the write-only ones, and no state of the core changed; a DOUT read while
BUSY = 1 takes a free value (45_control.md R343, which the spec marks derived; 70_reset_and_hazards.md R411; log entry 3). -/
def Obligations.HostReadsHaveNoSideEffect : Prop :=
  ∀ (r : Reg) (s : State),
    hostStep (.read (regOffset r) 4) s = .next { s with
      reads := s.reads ++ [(regOffset r, readReg r s)]
      draws := if s.busy = true ∧ (∃ k, r = .dout k) then s.draws + 1 else s.draws } ∧
    (∀ k : Fin 4, readReg (.din k) s = quadGet s.din k ∧ readReg (.keyin k) s = 0 ∧
      (s.busy = false → readReg (.dout k) s = quadGet s.dout k)) ∧
    readReg .cmd s = 0 ∧ readReg .errinfo s = s.errinfo ∧
    readReg .ctrl s = (if s.lenpol then 0x00000001 else 0x00000000)

/-- An access of another width or at an unaligned offset has no successor state (20_memory.md R81), nor has one outside
the 64-byte window (R80; log entry 4); every aligned 32-bit access inside the window has one. -/
def Obligations.OnlyAlignedWindowAccessesRun : Prop :=
  ∀ (off width : Nat) (v : Word) (s : State),
    ((width ≠ 4 ∨ off % 4 ≠ 0) → hostStep (.write off width v) s = .refused .hostAccessForm ∧
      hostStep (.read off width) s = .refused .hostAccessForm) ∧
    (width = 4 → off % 4 = 0 → 64 ≤ off → hostStep (.write off width v) s = .refused .outsideWindow ∧
      hostStep (.read off width) s = .refused .outsideWindow) ∧
    (width = 4 → off % 4 = 0 → off < 64 → ∃ r, regOffset r = off ∧
      hostStep (.write off width v) s = .next (hostWrite r v s) ∧
      hostStep (.read off width) s = .next (hostRead r s))

/-- The fields of STATUS are the elements they mirror, the reserved bits read 0, a write is ignored, a read has no side
effect on the core, and the reset value is 0 (10_state.md R34). -/
def Obligations.StatusMirrorsState : Prop :=
  statusWord State.reset = 0x00000000 ∧
  ∀ s : State,
    (∀ v, hostWrite .status v s = s) ∧ hostRead .status s = { s with reads := s.reads ++ [(0x04, statusWord s)] } ∧
    (statusWord s).getLsbD 0 = s.busy ∧ (statusWord s).getLsbD 1 = s.ksv ∧ (statusWord s).getLsbD 2 = s.keyReq ∧
    (statusWord s).extractLsb' 3 1 = 0 ∧ (statusWord s).extractLsb' 4 2 = modeBits s.mode ∧
    (statusWord s).extractLsb' 6 2 = 0 ∧ (statusWord s).extractLsb' 8 4 = errBits s.err ∧
    (statusWord s).extractLsb' 12 4 = 0 ∧ (statusWord s).extractLsb' 16 4 = s.ecnt ∧
    (statusWord s).extractLsb' 20 4 = s.dcnt ∧ (statusWord s).getLsbD 24 = s.pvalid ∧
    (statusWord s).getLsbD 25 = s.lopen ∧ (statusWord s).extractLsb' 26 6 = 0

/-- Byte 4k+j of a block is bits 31-8j..24-8j of word k, and b2w is the inverse of w2b (20_memory.md R84). -/
def Obligations.BlockWordMapping : Prop :=
  (∀ (q : Quad) (k j : Fin 4), blockGet (w2b q) (idx j k) = (quadGet q k).extractLsb' (24 - 8 * j.val) 8) ∧
  (∀ q : Quad, b2w (w2b q) = q) ∧ (∀ b : Block, w2b (b2w b) = b)

/-- The reset state has the invariant (10_state.md R62; 70_reset_and_hazards.md R400). -/
def Obligations.InvariantAtReset : Prop := State.reset.Inv

/-- Every step, of the core or of the outside world, keeps the invariant (10_state.md R62, which the spec marks derived). -/
def Obligations.InvariantKeptByEveryStep : Prop := ∀ s t : State, s.Inv → step s = .next t → t.Inv

/-- What no command changes: CTRL, DIN, BUSY, CMDLATCH and what belongs to the outside world (10_state.md R33, R37). -/
def Obligations.NoCommandWritesHostRegisters : Prop :=
  ∀ (i : Instr) (s t : State), exec i s = .next t →
    t.lenpol = s.lenpol ∧ t.din = s.din ∧ t.busy = s.busy ∧ t.cmdlatch = s.cmdlatch ∧ t.host = s.host ∧
    t.reads = s.reads ∧ t.draws = s.draws

/-- The frame of ST_LOAD, ST_SUBBYTES, ST_SHIFTROWS, ST_MIXCOLUMNS and the inverse stage commands (ST, DOUT and the error
latch) and of RK_READ (DOUT and the error latch): everything else is unchanged (43_forward_cipher.md R275;
42_key_schedule.md R245). -/
def Obligations.StageAndReadFrame : Prop :=
  (∀ (i : Instr) (s t : State),
    i ∈ [.stLoad, .stSubbytes, .stShiftrows, .stMixcolumns, .stInvsubbytes, .stInvshiftrows, .stInvmixcolumns] →
    exec i s = .next t →
    t = { s with st := t.st, dout := t.dout, err := t.err, errinfo := t.errinfo } ∧
      (t = { s with err := t.err, errinfo := t.errinfo } ∨ t.dout = b2w t.st)) ∧
  (∀ (r : Byte) (s t : State), exec (.rkRead r) s = .next t →
    t = { s with dout := t.dout, err := t.err, errinfo := t.errinfo })

/-- The frame of ENC_BLOCK, DEC_BLOCK and ST_ADDRK: ST, DOUT, the key request and the error latch may change, nothing
else, and ST and DOUT do not change when the command waits (43_forward_cipher.md R284, R285; 44_inverse_cipher.md R323). -/
def Obligations.BlockCommandFrame : Prop :=
  ∀ (i : Instr) (s t : State), (i = .encBlock ∨ i = .decBlock ∨ ∃ r, i = .stAddrk r) → exec i s = .next t →
    t = { s with st := t.st, dout := t.dout, keyReq := t.keyReq, pend := t.pend, err := t.err, errinfo := t.errinfo } ∧
    (t.keyReq ≠ s.keyReq → t = { s with keyReq := true, pend := encode i })

/-- The frame of the stream's data commands: ENC_BYTE and ENC_EOL may change EBUF, ECNT, SINK, DEC_BYTE may change DBUF,
DCNT, PBUF, PVALID, LOPEN, LINES, all of them the key request and the error latch, and nothing else; none writes DOUT
(41_stream_adapter.md R183, R184, R194; 10_state.md R38). -/
def Obligations.StreamElementFrame : Prop :=
  (∀ (i : Instr) (s t : State), (i = .encEol ∨ ∃ b, i = .encByte b) → exec i s = .next t →
    t = { s with
      ebuf := t.ebuf
      ecnt := t.ecnt
      sink := t.sink
      keyReq := t.keyReq
      pend := t.pend
      err := t.err
      errinfo := t.errinfo }) ∧
  (∀ (c : Byte) (s t : State), exec (.decByte c) s = .next t →
    t = { s with
      dbuf := t.dbuf
      dcnt := t.dcnt
      pbuf := t.pbuf
      pvalid := t.pvalid
      lopen := t.lopen
      lines := t.lines
      keyReq := t.keyReq
      pend := t.pend
      err := t.err
      errinfo := t.errinfo })

/-- The frame of ENC_BEGIN, DEC_BEGIN, ENC_END and DEC_END: the session's elements, the schedule and the error latch, for
ENC_END also SINK, for DEC_END also LINES, for both the key request, and nothing else (41_stream_adapter.md R182, R185,
R190, R196). -/
def Obligations.SessionCommandFrame : Prop :=
  ∀ (i : Instr) (s t : State), (i = .encBegin ∨ i = .decBegin ∨ i = .encEnd ∨ i = .decEnd) → exec i s = .next t →
    t = { s with
      mode := t.mode
      ebuf := t.ebuf
      ecnt := t.ecnt
      dbuf := t.dbuf
      dcnt := t.dcnt
      pbuf := t.pbuf
      pvalid := t.pvalid
      lopen := t.lopen
      rk := t.rk
      ksv := t.ksv
      sink := t.sink
      lines := t.lines
      keyReq := t.keyReq
      pend := t.pend
      err := t.err
      errinfo := t.errinfo } ∧
    (i ≠ .encEnd → t.sink = s.sink) ∧ (i ≠ .decEnd → t.lines = s.lines) ∧
    (i = .encBegin ∨ i = .decBegin → t.keyReq = s.keyReq ∧ t.pend = s.pend)

/-- The frame of KEY_CLEAR and KEY_FAIL, and of KEY_EXPAND with no request open: the key state, for KEY_FAIL also the
session's elements, and the error latch, and nothing else (42_key_schedule.md R241, R243, R244). -/
def Obligations.KeyCommandFrame : Prop :=
  (∀ s t : State, exec .keyClear s = .next t →
    t = { s with rk := t.rk, ksv := t.ksv, keyin := t.keyin, err := t.err, errinfo := t.errinfo }) ∧
  (∀ s t : State, s.keyReq = false → exec .keyExpand s = .next t →
    t = { s with rk := t.rk, ksv := t.ksv, keyin := t.keyin, err := t.err, errinfo := t.errinfo }) ∧
  (∀ s t : State, exec .keyFail s = .next t →
    t = { s with
      rk := t.rk
      ksv := t.ksv
      keyin := t.keyin
      keyReq := t.keyReq
      pend := t.pend
      mode := t.mode
      ebuf := t.ebuf
      ecnt := t.ecnt
      dbuf := t.dbuf
      dcnt := t.dcnt
      pbuf := t.pbuf
      pvalid := t.pvalid
      lopen := t.lopen
      err := t.err
      errinfo := t.errinfo })
end

