-- ==== Sys2Proof/Laws/Bytes.lean ====
section
/-! SUPPORT. Reading and writing the bytes of a block: reading what was written, writing one place only, and two blocks
being equal when their sixteen bytes are. -/

namespace Sys2Proof.Machine

@[simp] theorem blockGet_zero (i : Fin 16) : blockGet zeroBlock i = 0 := by fin_cases i <;> rfl

@[simp] theorem blockGet_map (f : Byte → Byte) (b : Block) (i : Fin 16) :
    blockGet (blockMap f b) i = f (blockGet b i) := by fin_cases i <;> rfl

@[simp] theorem blockGet_xor (a b : Block) (i : Fin 16) :
    blockGet (blockXor a b) i = blockGet a i ^^^ blockGet b i := by fin_cases i <;> rfl

/-- A byte reads as it was written. -/
@[simp] theorem blockGet_set_same (b : Block) (i : Fin 16) (v : Byte) : blockGet (blockSet b i v) i = v := by
  fin_cases i <;> rfl

/-- A write leaves every other byte alone. -/
theorem blockGet_set_ne (b : Block) {i j : Fin 16} (v : Byte) (h : j ≠ i) :
    blockGet (blockSet b i v) j = blockGet b j := by
  fin_cases i <;> fin_cases j <;> first | rfl | exact absurd rfl h

/-- Byte `i` of a block is element `i` of its byte sequence (00_scope.md R13). -/
theorem blockBytes_getElem (b : Block) (i : Fin 16) : (blockBytes b)[i.val]? = some (blockGet b i) := by
  fin_cases i <;> rfl

/-- Two blocks with the same sixteen bytes are equal. -/
theorem block_ext {a b : Block} (h : ∀ i : Fin 16, blockGet a i = blockGet b i) : a = b := by
  cases a with | mk a0 a1 a2 a3 =>
  cases b with | mk b0 b1 b2 b3 =>
  cases a0; cases a1; cases a2; cases a3; cases b0; cases b1; cases b2; cases b3
  simp only [Block.mk.injEq, Column.mk.injEq]
  exact ⟨⟨h 0, h 1, h 2, h 3⟩, ⟨h 4, h 5, h 6, h 7⟩, ⟨h 8, h 9, h 10, h 11⟩, ⟨h 12, h 13, h 14, h 15⟩⟩

/-- Byte `idx(r, c)` is `s[r][c]` (00_scope.md R14). -/
theorem blockGet_idx (b : Block) (r c : Fin 4) : blockGet b (idx r c) = blockAt b r c := by
  fin_cases r <;> fin_cases c <;> rfl

@[simp] theorem quadGet_set_same (q : Quad) (k : Fin 4) (v : Word) : quadGet (quadSet q k v) k = v := by
  fin_cases k <;> rfl

theorem quadGet_set_ne (q : Quad) {k j : Fin 4} (v : Word) (h : j ≠ k) : quadGet (quadSet q k v) j = quadGet q j := by
  fin_cases k <;> fin_cases j <;> first | rfl | exact absurd rfl h

end Sys2Proof.Machine
end

