-- ==== Sys2Proof/Laws/State.lean ====
section
/-! SUPPORT. What each named update of State leaves in each field: one lemma per field per update, all by rfl, so that
no proof unfolds an update. -/

namespace Sys2Proof.Machine

section Raise

@[simp] theorem raise_lenpol (e : ErrCode) (info : Word) (s : State) : (raise e info s).lenpol = s.lenpol := rfl
@[simp] theorem raise_errinfo (e : ErrCode) (info : Word) (s : State) : (raise e info s).errinfo = if s.err = .none then info else s.errinfo := rfl
@[simp] theorem raise_din (e : ErrCode) (info : Word) (s : State) : (raise e info s).din = s.din := rfl
@[simp] theorem raise_dout (e : ErrCode) (info : Word) (s : State) : (raise e info s).dout = s.dout := rfl
@[simp] theorem raise_keyin (e : ErrCode) (info : Word) (s : State) : (raise e info s).keyin = s.keyin := rfl
@[simp] theorem raise_st (e : ErrCode) (info : Word) (s : State) : (raise e info s).st = s.st := rfl
@[simp] theorem raise_rk (e : ErrCode) (info : Word) (s : State) : (raise e info s).rk = s.rk := rfl
@[simp] theorem raise_ksv (e : ErrCode) (info : Word) (s : State) : (raise e info s).ksv = s.ksv := rfl
@[simp] theorem raise_keyReq (e : ErrCode) (info : Word) (s : State) : (raise e info s).keyReq = s.keyReq := rfl
@[simp] theorem raise_pend (e : ErrCode) (info : Word) (s : State) : (raise e info s).pend = s.pend := rfl
@[simp] theorem raise_mode (e : ErrCode) (info : Word) (s : State) : (raise e info s).mode = s.mode := rfl
@[simp] theorem raise_ebuf (e : ErrCode) (info : Word) (s : State) : (raise e info s).ebuf = s.ebuf := rfl
@[simp] theorem raise_ecnt (e : ErrCode) (info : Word) (s : State) : (raise e info s).ecnt = s.ecnt := rfl
@[simp] theorem raise_dbuf (e : ErrCode) (info : Word) (s : State) : (raise e info s).dbuf = s.dbuf := rfl
@[simp] theorem raise_dcnt (e : ErrCode) (info : Word) (s : State) : (raise e info s).dcnt = s.dcnt := rfl
@[simp] theorem raise_pbuf (e : ErrCode) (info : Word) (s : State) : (raise e info s).pbuf = s.pbuf := rfl
@[simp] theorem raise_pvalid (e : ErrCode) (info : Word) (s : State) : (raise e info s).pvalid = s.pvalid := rfl
@[simp] theorem raise_lopen (e : ErrCode) (info : Word) (s : State) : (raise e info s).lopen = s.lopen := rfl
@[simp] theorem raise_busy (e : ErrCode) (info : Word) (s : State) : (raise e info s).busy = s.busy := rfl
@[simp] theorem raise_cmdlatch (e : ErrCode) (info : Word) (s : State) : (raise e info s).cmdlatch = s.cmdlatch := rfl
@[simp] theorem raise_err (e : ErrCode) (info : Word) (s : State) : (raise e info s).err = if s.err = .none then e else s.err := rfl
@[simp] theorem raise_sink (e : ErrCode) (info : Word) (s : State) : (raise e info s).sink = s.sink := rfl
@[simp] theorem raise_lines (e : ErrCode) (info : Word) (s : State) : (raise e info s).lines = s.lines := rfl
@[simp] theorem raise_host (e : ErrCode) (info : Word) (s : State) : (raise e info s).host = s.host := rfl
@[simp] theorem raise_reads (e : ErrCode) (info : Word) (s : State) : (raise e info s).reads = s.reads := rfl
@[simp] theorem raise_draws (e : ErrCode) (info : Word) (s : State) : (raise e info s).draws = s.draws := rfl

end Raise

section ClearError

@[simp] theorem clearError_lenpol (s : State) : (clearError s).lenpol = s.lenpol := rfl
@[simp] theorem clearError_errinfo (s : State) : (clearError s).errinfo = 0 := rfl
@[simp] theorem clearError_din (s : State) : (clearError s).din = s.din := rfl
@[simp] theorem clearError_dout (s : State) : (clearError s).dout = s.dout := rfl
@[simp] theorem clearError_keyin (s : State) : (clearError s).keyin = s.keyin := rfl
@[simp] theorem clearError_st (s : State) : (clearError s).st = s.st := rfl
@[simp] theorem clearError_rk (s : State) : (clearError s).rk = s.rk := rfl
@[simp] theorem clearError_ksv (s : State) : (clearError s).ksv = s.ksv := rfl
@[simp] theorem clearError_keyReq (s : State) : (clearError s).keyReq = s.keyReq := rfl
@[simp] theorem clearError_pend (s : State) : (clearError s).pend = s.pend := rfl
@[simp] theorem clearError_mode (s : State) : (clearError s).mode = s.mode := rfl
@[simp] theorem clearError_ebuf (s : State) : (clearError s).ebuf = s.ebuf := rfl
@[simp] theorem clearError_ecnt (s : State) : (clearError s).ecnt = s.ecnt := rfl
@[simp] theorem clearError_dbuf (s : State) : (clearError s).dbuf = s.dbuf := rfl
@[simp] theorem clearError_dcnt (s : State) : (clearError s).dcnt = s.dcnt := rfl
@[simp] theorem clearError_pbuf (s : State) : (clearError s).pbuf = s.pbuf := rfl
@[simp] theorem clearError_pvalid (s : State) : (clearError s).pvalid = s.pvalid := rfl
@[simp] theorem clearError_lopen (s : State) : (clearError s).lopen = s.lopen := rfl
@[simp] theorem clearError_busy (s : State) : (clearError s).busy = s.busy := rfl
@[simp] theorem clearError_cmdlatch (s : State) : (clearError s).cmdlatch = s.cmdlatch := rfl
@[simp] theorem clearError_err (s : State) : (clearError s).err = .none := rfl
@[simp] theorem clearError_sink (s : State) : (clearError s).sink = s.sink := rfl
@[simp] theorem clearError_lines (s : State) : (clearError s).lines = s.lines := rfl
@[simp] theorem clearError_host (s : State) : (clearError s).host = s.host := rfl
@[simp] theorem clearError_reads (s : State) : (clearError s).reads = s.reads := rfl
@[simp] theorem clearError_draws (s : State) : (clearError s).draws = s.draws := rfl

end ClearError

section ClearSchedule

@[simp] theorem clearSchedule_lenpol (s : State) : (clearSchedule s).lenpol = s.lenpol := rfl
@[simp] theorem clearSchedule_errinfo (s : State) : (clearSchedule s).errinfo = s.errinfo := rfl
@[simp] theorem clearSchedule_din (s : State) : (clearSchedule s).din = s.din := rfl
@[simp] theorem clearSchedule_dout (s : State) : (clearSchedule s).dout = s.dout := rfl
@[simp] theorem clearSchedule_keyin (s : State) : (clearSchedule s).keyin = s.keyin := rfl
@[simp] theorem clearSchedule_st (s : State) : (clearSchedule s).st = s.st := rfl
@[simp] theorem clearSchedule_rk (s : State) : (clearSchedule s).rk = zeroKeys := rfl
@[simp] theorem clearSchedule_ksv (s : State) : (clearSchedule s).ksv = false := rfl
@[simp] theorem clearSchedule_keyReq (s : State) : (clearSchedule s).keyReq = s.keyReq := rfl
@[simp] theorem clearSchedule_pend (s : State) : (clearSchedule s).pend = s.pend := rfl
@[simp] theorem clearSchedule_mode (s : State) : (clearSchedule s).mode = s.mode := rfl
@[simp] theorem clearSchedule_ebuf (s : State) : (clearSchedule s).ebuf = s.ebuf := rfl
@[simp] theorem clearSchedule_ecnt (s : State) : (clearSchedule s).ecnt = s.ecnt := rfl
@[simp] theorem clearSchedule_dbuf (s : State) : (clearSchedule s).dbuf = s.dbuf := rfl
@[simp] theorem clearSchedule_dcnt (s : State) : (clearSchedule s).dcnt = s.dcnt := rfl
@[simp] theorem clearSchedule_pbuf (s : State) : (clearSchedule s).pbuf = s.pbuf := rfl
@[simp] theorem clearSchedule_pvalid (s : State) : (clearSchedule s).pvalid = s.pvalid := rfl
@[simp] theorem clearSchedule_lopen (s : State) : (clearSchedule s).lopen = s.lopen := rfl
@[simp] theorem clearSchedule_busy (s : State) : (clearSchedule s).busy = s.busy := rfl
@[simp] theorem clearSchedule_cmdlatch (s : State) : (clearSchedule s).cmdlatch = s.cmdlatch := rfl
@[simp] theorem clearSchedule_err (s : State) : (clearSchedule s).err = s.err := rfl
@[simp] theorem clearSchedule_sink (s : State) : (clearSchedule s).sink = s.sink := rfl
@[simp] theorem clearSchedule_lines (s : State) : (clearSchedule s).lines = s.lines := rfl
@[simp] theorem clearSchedule_host (s : State) : (clearSchedule s).host = s.host := rfl
@[simp] theorem clearSchedule_reads (s : State) : (clearSchedule s).reads = s.reads := rfl
@[simp] theorem clearSchedule_draws (s : State) : (clearSchedule s).draws = s.draws := rfl

end ClearSchedule

section ClearSession

@[simp] theorem clearSession_lenpol (s : State) : (clearSession s).lenpol = s.lenpol := rfl
@[simp] theorem clearSession_errinfo (s : State) : (clearSession s).errinfo = s.errinfo := rfl
@[simp] theorem clearSession_din (s : State) : (clearSession s).din = s.din := rfl
@[simp] theorem clearSession_dout (s : State) : (clearSession s).dout = s.dout := rfl
@[simp] theorem clearSession_keyin (s : State) : (clearSession s).keyin = s.keyin := rfl
@[simp] theorem clearSession_st (s : State) : (clearSession s).st = s.st := rfl
@[simp] theorem clearSession_rk (s : State) : (clearSession s).rk = s.rk := rfl
@[simp] theorem clearSession_ksv (s : State) : (clearSession s).ksv = s.ksv := rfl
@[simp] theorem clearSession_keyReq (s : State) : (clearSession s).keyReq = s.keyReq := rfl
@[simp] theorem clearSession_pend (s : State) : (clearSession s).pend = s.pend := rfl
@[simp] theorem clearSession_mode (s : State) : (clearSession s).mode = .idle := rfl
@[simp] theorem clearSession_ebuf (s : State) : (clearSession s).ebuf = zeroBlock := rfl
@[simp] theorem clearSession_ecnt (s : State) : (clearSession s).ecnt = 0 := rfl
@[simp] theorem clearSession_dbuf (s : State) : (clearSession s).dbuf = zeroBlock := rfl
@[simp] theorem clearSession_dcnt (s : State) : (clearSession s).dcnt = 0 := rfl
@[simp] theorem clearSession_pbuf (s : State) : (clearSession s).pbuf = zeroBlock := rfl
@[simp] theorem clearSession_pvalid (s : State) : (clearSession s).pvalid = false := rfl
@[simp] theorem clearSession_lopen (s : State) : (clearSession s).lopen = false := rfl
@[simp] theorem clearSession_busy (s : State) : (clearSession s).busy = s.busy := rfl
@[simp] theorem clearSession_cmdlatch (s : State) : (clearSession s).cmdlatch = s.cmdlatch := rfl
@[simp] theorem clearSession_err (s : State) : (clearSession s).err = s.err := rfl
@[simp] theorem clearSession_sink (s : State) : (clearSession s).sink = s.sink := rfl
@[simp] theorem clearSession_lines (s : State) : (clearSession s).lines = s.lines := rfl
@[simp] theorem clearSession_host (s : State) : (clearSession s).host = s.host := rfl
@[simp] theorem clearSession_reads (s : State) : (clearSession s).reads = s.reads := rfl
@[simp] theorem clearSession_draws (s : State) : (clearSession s).draws = s.draws := rfl

end ClearSession

section EndSession

@[simp] theorem endSession_lenpol (s : State) : (endSession s).lenpol = s.lenpol := rfl
@[simp] theorem endSession_errinfo (s : State) : (endSession s).errinfo = s.errinfo := rfl
@[simp] theorem endSession_din (s : State) : (endSession s).din = s.din := rfl
@[simp] theorem endSession_dout (s : State) : (endSession s).dout = s.dout := rfl
@[simp] theorem endSession_keyin (s : State) : (endSession s).keyin = s.keyin := rfl
@[simp] theorem endSession_st (s : State) : (endSession s).st = s.st := rfl
@[simp] theorem endSession_rk (s : State) : (endSession s).rk = zeroKeys := rfl
@[simp] theorem endSession_ksv (s : State) : (endSession s).ksv = false := rfl
@[simp] theorem endSession_keyReq (s : State) : (endSession s).keyReq = s.keyReq := rfl
@[simp] theorem endSession_pend (s : State) : (endSession s).pend = s.pend := rfl
@[simp] theorem endSession_mode (s : State) : (endSession s).mode = .idle := rfl
@[simp] theorem endSession_ebuf (s : State) : (endSession s).ebuf = zeroBlock := rfl
@[simp] theorem endSession_ecnt (s : State) : (endSession s).ecnt = 0 := rfl
@[simp] theorem endSession_dbuf (s : State) : (endSession s).dbuf = zeroBlock := rfl
@[simp] theorem endSession_dcnt (s : State) : (endSession s).dcnt = 0 := rfl
@[simp] theorem endSession_pbuf (s : State) : (endSession s).pbuf = zeroBlock := rfl
@[simp] theorem endSession_pvalid (s : State) : (endSession s).pvalid = false := rfl
@[simp] theorem endSession_lopen (s : State) : (endSession s).lopen = false := rfl
@[simp] theorem endSession_busy (s : State) : (endSession s).busy = s.busy := rfl
@[simp] theorem endSession_cmdlatch (s : State) : (endSession s).cmdlatch = s.cmdlatch := rfl
@[simp] theorem endSession_err (s : State) : (endSession s).err = s.err := rfl
@[simp] theorem endSession_sink (s : State) : (endSession s).sink = s.sink := rfl
@[simp] theorem endSession_lines (s : State) : (endSession s).lines = s.lines := rfl
@[simp] theorem endSession_host (s : State) : (endSession s).host = s.host := rfl
@[simp] theorem endSession_reads (s : State) : (endSession s).reads = s.reads := rfl
@[simp] theorem endSession_draws (s : State) : (endSession s).draws = s.draws := rfl

end EndSession

section BeginSession

@[simp] theorem beginSession_lenpol (m : Mode) (s : State) : (beginSession m s).lenpol = s.lenpol := rfl
@[simp] theorem beginSession_errinfo (m : Mode) (s : State) : (beginSession m s).errinfo = s.errinfo := rfl
@[simp] theorem beginSession_din (m : Mode) (s : State) : (beginSession m s).din = s.din := rfl
@[simp] theorem beginSession_dout (m : Mode) (s : State) : (beginSession m s).dout = s.dout := rfl
@[simp] theorem beginSession_keyin (m : Mode) (s : State) : (beginSession m s).keyin = s.keyin := rfl
@[simp] theorem beginSession_st (m : Mode) (s : State) : (beginSession m s).st = s.st := rfl
@[simp] theorem beginSession_rk (m : Mode) (s : State) : (beginSession m s).rk = zeroKeys := rfl
@[simp] theorem beginSession_ksv (m : Mode) (s : State) : (beginSession m s).ksv = false := rfl
@[simp] theorem beginSession_keyReq (m : Mode) (s : State) : (beginSession m s).keyReq = s.keyReq := rfl
@[simp] theorem beginSession_pend (m : Mode) (s : State) : (beginSession m s).pend = s.pend := rfl
@[simp] theorem beginSession_mode (m : Mode) (s : State) : (beginSession m s).mode = m := rfl
@[simp] theorem beginSession_ebuf (m : Mode) (s : State) : (beginSession m s).ebuf = zeroBlock := rfl
@[simp] theorem beginSession_ecnt (m : Mode) (s : State) : (beginSession m s).ecnt = 0 := rfl
@[simp] theorem beginSession_dbuf (m : Mode) (s : State) : (beginSession m s).dbuf = zeroBlock := rfl
@[simp] theorem beginSession_dcnt (m : Mode) (s : State) : (beginSession m s).dcnt = 0 := rfl
@[simp] theorem beginSession_pbuf (m : Mode) (s : State) : (beginSession m s).pbuf = zeroBlock := rfl
@[simp] theorem beginSession_pvalid (m : Mode) (s : State) : (beginSession m s).pvalid = false := rfl
@[simp] theorem beginSession_lopen (m : Mode) (s : State) : (beginSession m s).lopen = false := rfl
@[simp] theorem beginSession_busy (m : Mode) (s : State) : (beginSession m s).busy = s.busy := rfl
@[simp] theorem beginSession_cmdlatch (m : Mode) (s : State) : (beginSession m s).cmdlatch = s.cmdlatch := rfl
@[simp] theorem beginSession_err (m : Mode) (s : State) : (beginSession m s).err = s.err := rfl
@[simp] theorem beginSession_sink (m : Mode) (s : State) : (beginSession m s).sink = s.sink := rfl
@[simp] theorem beginSession_lines (m : Mode) (s : State) : (beginSession m s).lines = s.lines := rfl
@[simp] theorem beginSession_host (m : Mode) (s : State) : (beginSession m s).host = s.host := rfl
@[simp] theorem beginSession_reads (m : Mode) (s : State) : (beginSession m s).reads = s.reads := rfl
@[simp] theorem beginSession_draws (m : Mode) (s : State) : (beginSession m s).draws = s.draws := rfl

end BeginSession

section ClearKeyin

@[simp] theorem clearKeyin_lenpol (s : State) : (clearKeyin s).lenpol = s.lenpol := rfl
@[simp] theorem clearKeyin_errinfo (s : State) : (clearKeyin s).errinfo = s.errinfo := rfl
@[simp] theorem clearKeyin_din (s : State) : (clearKeyin s).din = s.din := rfl
@[simp] theorem clearKeyin_dout (s : State) : (clearKeyin s).dout = s.dout := rfl
@[simp] theorem clearKeyin_keyin (s : State) : (clearKeyin s).keyin = zeroQuad := rfl
@[simp] theorem clearKeyin_st (s : State) : (clearKeyin s).st = s.st := rfl
@[simp] theorem clearKeyin_rk (s : State) : (clearKeyin s).rk = s.rk := rfl
@[simp] theorem clearKeyin_ksv (s : State) : (clearKeyin s).ksv = s.ksv := rfl
@[simp] theorem clearKeyin_keyReq (s : State) : (clearKeyin s).keyReq = s.keyReq := rfl
@[simp] theorem clearKeyin_pend (s : State) : (clearKeyin s).pend = s.pend := rfl
@[simp] theorem clearKeyin_mode (s : State) : (clearKeyin s).mode = s.mode := rfl
@[simp] theorem clearKeyin_ebuf (s : State) : (clearKeyin s).ebuf = s.ebuf := rfl
@[simp] theorem clearKeyin_ecnt (s : State) : (clearKeyin s).ecnt = s.ecnt := rfl
@[simp] theorem clearKeyin_dbuf (s : State) : (clearKeyin s).dbuf = s.dbuf := rfl
@[simp] theorem clearKeyin_dcnt (s : State) : (clearKeyin s).dcnt = s.dcnt := rfl
@[simp] theorem clearKeyin_pbuf (s : State) : (clearKeyin s).pbuf = s.pbuf := rfl
@[simp] theorem clearKeyin_pvalid (s : State) : (clearKeyin s).pvalid = s.pvalid := rfl
@[simp] theorem clearKeyin_lopen (s : State) : (clearKeyin s).lopen = s.lopen := rfl
@[simp] theorem clearKeyin_busy (s : State) : (clearKeyin s).busy = s.busy := rfl
@[simp] theorem clearKeyin_cmdlatch (s : State) : (clearKeyin s).cmdlatch = s.cmdlatch := rfl
@[simp] theorem clearKeyin_err (s : State) : (clearKeyin s).err = s.err := rfl
@[simp] theorem clearKeyin_sink (s : State) : (clearKeyin s).sink = s.sink := rfl
@[simp] theorem clearKeyin_lines (s : State) : (clearKeyin s).lines = s.lines := rfl
@[simp] theorem clearKeyin_host (s : State) : (clearKeyin s).host = s.host := rfl
@[simp] theorem clearKeyin_reads (s : State) : (clearKeyin s).reads = s.reads := rfl
@[simp] theorem clearKeyin_draws (s : State) : (clearKeyin s).draws = s.draws := rfl

end ClearKeyin

section DropRequest

@[simp] theorem dropRequest_lenpol (s : State) : (dropRequest s).lenpol = s.lenpol := rfl
@[simp] theorem dropRequest_errinfo (s : State) : (dropRequest s).errinfo = s.errinfo := rfl
@[simp] theorem dropRequest_din (s : State) : (dropRequest s).din = s.din := rfl
@[simp] theorem dropRequest_dout (s : State) : (dropRequest s).dout = s.dout := rfl
@[simp] theorem dropRequest_keyin (s : State) : (dropRequest s).keyin = s.keyin := rfl
@[simp] theorem dropRequest_st (s : State) : (dropRequest s).st = s.st := rfl
@[simp] theorem dropRequest_rk (s : State) : (dropRequest s).rk = s.rk := rfl
@[simp] theorem dropRequest_ksv (s : State) : (dropRequest s).ksv = s.ksv := rfl
@[simp] theorem dropRequest_keyReq (s : State) : (dropRequest s).keyReq = false := rfl
@[simp] theorem dropRequest_pend (s : State) : (dropRequest s).pend = 0 := rfl
@[simp] theorem dropRequest_mode (s : State) : (dropRequest s).mode = s.mode := rfl
@[simp] theorem dropRequest_ebuf (s : State) : (dropRequest s).ebuf = s.ebuf := rfl
@[simp] theorem dropRequest_ecnt (s : State) : (dropRequest s).ecnt = s.ecnt := rfl
@[simp] theorem dropRequest_dbuf (s : State) : (dropRequest s).dbuf = s.dbuf := rfl
@[simp] theorem dropRequest_dcnt (s : State) : (dropRequest s).dcnt = s.dcnt := rfl
@[simp] theorem dropRequest_pbuf (s : State) : (dropRequest s).pbuf = s.pbuf := rfl
@[simp] theorem dropRequest_pvalid (s : State) : (dropRequest s).pvalid = s.pvalid := rfl
@[simp] theorem dropRequest_lopen (s : State) : (dropRequest s).lopen = s.lopen := rfl
@[simp] theorem dropRequest_busy (s : State) : (dropRequest s).busy = s.busy := rfl
@[simp] theorem dropRequest_cmdlatch (s : State) : (dropRequest s).cmdlatch = s.cmdlatch := rfl
@[simp] theorem dropRequest_err (s : State) : (dropRequest s).err = s.err := rfl
@[simp] theorem dropRequest_sink (s : State) : (dropRequest s).sink = s.sink := rfl
@[simp] theorem dropRequest_lines (s : State) : (dropRequest s).lines = s.lines := rfl
@[simp] theorem dropRequest_host (s : State) : (dropRequest s).host = s.host := rfl
@[simp] theorem dropRequest_reads (s : State) : (dropRequest s).reads = s.reads := rfl
@[simp] theorem dropRequest_draws (s : State) : (dropRequest s).draws = s.draws := rfl

end DropRequest

section RequestKey

@[simp] theorem requestKey_lenpol (w : Word) (s : State) : (requestKey w s).lenpol = s.lenpol := rfl
@[simp] theorem requestKey_errinfo (w : Word) (s : State) : (requestKey w s).errinfo = s.errinfo := rfl
@[simp] theorem requestKey_din (w : Word) (s : State) : (requestKey w s).din = s.din := rfl
@[simp] theorem requestKey_dout (w : Word) (s : State) : (requestKey w s).dout = s.dout := rfl
@[simp] theorem requestKey_keyin (w : Word) (s : State) : (requestKey w s).keyin = s.keyin := rfl
@[simp] theorem requestKey_st (w : Word) (s : State) : (requestKey w s).st = s.st := rfl
@[simp] theorem requestKey_rk (w : Word) (s : State) : (requestKey w s).rk = s.rk := rfl
@[simp] theorem requestKey_ksv (w : Word) (s : State) : (requestKey w s).ksv = s.ksv := rfl
@[simp] theorem requestKey_keyReq (w : Word) (s : State) : (requestKey w s).keyReq = true := rfl
@[simp] theorem requestKey_pend (w : Word) (s : State) : (requestKey w s).pend = w := rfl
@[simp] theorem requestKey_mode (w : Word) (s : State) : (requestKey w s).mode = s.mode := rfl
@[simp] theorem requestKey_ebuf (w : Word) (s : State) : (requestKey w s).ebuf = s.ebuf := rfl
@[simp] theorem requestKey_ecnt (w : Word) (s : State) : (requestKey w s).ecnt = s.ecnt := rfl
@[simp] theorem requestKey_dbuf (w : Word) (s : State) : (requestKey w s).dbuf = s.dbuf := rfl
@[simp] theorem requestKey_dcnt (w : Word) (s : State) : (requestKey w s).dcnt = s.dcnt := rfl
@[simp] theorem requestKey_pbuf (w : Word) (s : State) : (requestKey w s).pbuf = s.pbuf := rfl
@[simp] theorem requestKey_pvalid (w : Word) (s : State) : (requestKey w s).pvalid = s.pvalid := rfl
@[simp] theorem requestKey_lopen (w : Word) (s : State) : (requestKey w s).lopen = s.lopen := rfl
@[simp] theorem requestKey_busy (w : Word) (s : State) : (requestKey w s).busy = s.busy := rfl
@[simp] theorem requestKey_cmdlatch (w : Word) (s : State) : (requestKey w s).cmdlatch = s.cmdlatch := rfl
@[simp] theorem requestKey_err (w : Word) (s : State) : (requestKey w s).err = s.err := rfl
@[simp] theorem requestKey_sink (w : Word) (s : State) : (requestKey w s).sink = s.sink := rfl
@[simp] theorem requestKey_lines (w : Word) (s : State) : (requestKey w s).lines = s.lines := rfl
@[simp] theorem requestKey_host (w : Word) (s : State) : (requestKey w s).host = s.host := rfl
@[simp] theorem requestKey_reads (w : Word) (s : State) : (requestKey w s).reads = s.reads := rfl
@[simp] theorem requestKey_draws (w : Word) (s : State) : (requestKey w s).draws = s.draws := rfl

end RequestKey

section TakeCommand

@[simp] theorem takeCommand_lenpol (s : State) : (takeCommand s).lenpol = s.lenpol := rfl
@[simp] theorem takeCommand_errinfo (s : State) : (takeCommand s).errinfo = s.errinfo := rfl
@[simp] theorem takeCommand_din (s : State) : (takeCommand s).din = s.din := rfl
@[simp] theorem takeCommand_dout (s : State) : (takeCommand s).dout = s.dout := rfl
@[simp] theorem takeCommand_keyin (s : State) : (takeCommand s).keyin = s.keyin := rfl
@[simp] theorem takeCommand_st (s : State) : (takeCommand s).st = s.st := rfl
@[simp] theorem takeCommand_rk (s : State) : (takeCommand s).rk = s.rk := rfl
@[simp] theorem takeCommand_ksv (s : State) : (takeCommand s).ksv = s.ksv := rfl
@[simp] theorem takeCommand_keyReq (s : State) : (takeCommand s).keyReq = s.keyReq := rfl
@[simp] theorem takeCommand_pend (s : State) : (takeCommand s).pend = s.pend := rfl
@[simp] theorem takeCommand_mode (s : State) : (takeCommand s).mode = s.mode := rfl
@[simp] theorem takeCommand_ebuf (s : State) : (takeCommand s).ebuf = s.ebuf := rfl
@[simp] theorem takeCommand_ecnt (s : State) : (takeCommand s).ecnt = s.ecnt := rfl
@[simp] theorem takeCommand_dbuf (s : State) : (takeCommand s).dbuf = s.dbuf := rfl
@[simp] theorem takeCommand_dcnt (s : State) : (takeCommand s).dcnt = s.dcnt := rfl
@[simp] theorem takeCommand_pbuf (s : State) : (takeCommand s).pbuf = s.pbuf := rfl
@[simp] theorem takeCommand_pvalid (s : State) : (takeCommand s).pvalid = s.pvalid := rfl
@[simp] theorem takeCommand_lopen (s : State) : (takeCommand s).lopen = s.lopen := rfl
@[simp] theorem takeCommand_busy (s : State) : (takeCommand s).busy = false := rfl
@[simp] theorem takeCommand_cmdlatch (s : State) : (takeCommand s).cmdlatch = 0 := rfl
@[simp] theorem takeCommand_err (s : State) : (takeCommand s).err = s.err := rfl
@[simp] theorem takeCommand_sink (s : State) : (takeCommand s).sink = s.sink := rfl
@[simp] theorem takeCommand_lines (s : State) : (takeCommand s).lines = s.lines := rfl
@[simp] theorem takeCommand_host (s : State) : (takeCommand s).host = s.host := rfl
@[simp] theorem takeCommand_reads (s : State) : (takeCommand s).reads = s.reads := rfl
@[simp] theorem takeCommand_draws (s : State) : (takeCommand s).draws = s.draws := rfl

end TakeCommand

section LatchCommand

@[simp] theorem latchCommand_lenpol (w : Word) (s : State) : (latchCommand w s).lenpol = s.lenpol := rfl
@[simp] theorem latchCommand_errinfo (w : Word) (s : State) : (latchCommand w s).errinfo = s.errinfo := rfl
@[simp] theorem latchCommand_din (w : Word) (s : State) : (latchCommand w s).din = s.din := rfl
@[simp] theorem latchCommand_dout (w : Word) (s : State) : (latchCommand w s).dout = s.dout := rfl
@[simp] theorem latchCommand_keyin (w : Word) (s : State) : (latchCommand w s).keyin = s.keyin := rfl
@[simp] theorem latchCommand_st (w : Word) (s : State) : (latchCommand w s).st = s.st := rfl
@[simp] theorem latchCommand_rk (w : Word) (s : State) : (latchCommand w s).rk = s.rk := rfl
@[simp] theorem latchCommand_ksv (w : Word) (s : State) : (latchCommand w s).ksv = s.ksv := rfl
@[simp] theorem latchCommand_keyReq (w : Word) (s : State) : (latchCommand w s).keyReq = s.keyReq := rfl
@[simp] theorem latchCommand_pend (w : Word) (s : State) : (latchCommand w s).pend = s.pend := rfl
@[simp] theorem latchCommand_mode (w : Word) (s : State) : (latchCommand w s).mode = s.mode := rfl
@[simp] theorem latchCommand_ebuf (w : Word) (s : State) : (latchCommand w s).ebuf = s.ebuf := rfl
@[simp] theorem latchCommand_ecnt (w : Word) (s : State) : (latchCommand w s).ecnt = s.ecnt := rfl
@[simp] theorem latchCommand_dbuf (w : Word) (s : State) : (latchCommand w s).dbuf = s.dbuf := rfl
@[simp] theorem latchCommand_dcnt (w : Word) (s : State) : (latchCommand w s).dcnt = s.dcnt := rfl
@[simp] theorem latchCommand_pbuf (w : Word) (s : State) : (latchCommand w s).pbuf = s.pbuf := rfl
@[simp] theorem latchCommand_pvalid (w : Word) (s : State) : (latchCommand w s).pvalid = s.pvalid := rfl
@[simp] theorem latchCommand_lopen (w : Word) (s : State) : (latchCommand w s).lopen = s.lopen := rfl
@[simp] theorem latchCommand_busy (w : Word) (s : State) : (latchCommand w s).busy = true := rfl
@[simp] theorem latchCommand_cmdlatch (w : Word) (s : State) : (latchCommand w s).cmdlatch = w := rfl
@[simp] theorem latchCommand_err (w : Word) (s : State) : (latchCommand w s).err = s.err := rfl
@[simp] theorem latchCommand_sink (w : Word) (s : State) : (latchCommand w s).sink = s.sink := rfl
@[simp] theorem latchCommand_lines (w : Word) (s : State) : (latchCommand w s).lines = s.lines := rfl
@[simp] theorem latchCommand_host (w : Word) (s : State) : (latchCommand w s).host = s.host := rfl
@[simp] theorem latchCommand_reads (w : Word) (s : State) : (latchCommand w s).reads = s.reads := rfl
@[simp] theorem latchCommand_draws (w : Word) (s : State) : (latchCommand w s).draws = s.draws := rfl

end LatchCommand

section ShowBlock

@[simp] theorem showBlock_lenpol (b : Block) (s : State) : (showBlock b s).lenpol = s.lenpol := rfl
@[simp] theorem showBlock_errinfo (b : Block) (s : State) : (showBlock b s).errinfo = s.errinfo := rfl
@[simp] theorem showBlock_din (b : Block) (s : State) : (showBlock b s).din = s.din := rfl
@[simp] theorem showBlock_dout (b : Block) (s : State) : (showBlock b s).dout = b2w b := rfl
@[simp] theorem showBlock_keyin (b : Block) (s : State) : (showBlock b s).keyin = s.keyin := rfl
@[simp] theorem showBlock_st (b : Block) (s : State) : (showBlock b s).st = s.st := rfl
@[simp] theorem showBlock_rk (b : Block) (s : State) : (showBlock b s).rk = s.rk := rfl
@[simp] theorem showBlock_ksv (b : Block) (s : State) : (showBlock b s).ksv = s.ksv := rfl
@[simp] theorem showBlock_keyReq (b : Block) (s : State) : (showBlock b s).keyReq = s.keyReq := rfl
@[simp] theorem showBlock_pend (b : Block) (s : State) : (showBlock b s).pend = s.pend := rfl
@[simp] theorem showBlock_mode (b : Block) (s : State) : (showBlock b s).mode = s.mode := rfl
@[simp] theorem showBlock_ebuf (b : Block) (s : State) : (showBlock b s).ebuf = s.ebuf := rfl
@[simp] theorem showBlock_ecnt (b : Block) (s : State) : (showBlock b s).ecnt = s.ecnt := rfl
@[simp] theorem showBlock_dbuf (b : Block) (s : State) : (showBlock b s).dbuf = s.dbuf := rfl
@[simp] theorem showBlock_dcnt (b : Block) (s : State) : (showBlock b s).dcnt = s.dcnt := rfl
@[simp] theorem showBlock_pbuf (b : Block) (s : State) : (showBlock b s).pbuf = s.pbuf := rfl
@[simp] theorem showBlock_pvalid (b : Block) (s : State) : (showBlock b s).pvalid = s.pvalid := rfl
@[simp] theorem showBlock_lopen (b : Block) (s : State) : (showBlock b s).lopen = s.lopen := rfl
@[simp] theorem showBlock_busy (b : Block) (s : State) : (showBlock b s).busy = s.busy := rfl
@[simp] theorem showBlock_cmdlatch (b : Block) (s : State) : (showBlock b s).cmdlatch = s.cmdlatch := rfl
@[simp] theorem showBlock_err (b : Block) (s : State) : (showBlock b s).err = s.err := rfl
@[simp] theorem showBlock_sink (b : Block) (s : State) : (showBlock b s).sink = s.sink := rfl
@[simp] theorem showBlock_lines (b : Block) (s : State) : (showBlock b s).lines = s.lines := rfl
@[simp] theorem showBlock_host (b : Block) (s : State) : (showBlock b s).host = s.host := rfl
@[simp] theorem showBlock_reads (b : Block) (s : State) : (showBlock b s).reads = s.reads := rfl
@[simp] theorem showBlock_draws (b : Block) (s : State) : (showBlock b s).draws = s.draws := rfl

end ShowBlock

section SetStage

@[simp] theorem setStage_lenpol (b : Block) (s : State) : (setStage b s).lenpol = s.lenpol := rfl
@[simp] theorem setStage_errinfo (b : Block) (s : State) : (setStage b s).errinfo = s.errinfo := rfl
@[simp] theorem setStage_din (b : Block) (s : State) : (setStage b s).din = s.din := rfl
@[simp] theorem setStage_dout (b : Block) (s : State) : (setStage b s).dout = b2w b := rfl
@[simp] theorem setStage_keyin (b : Block) (s : State) : (setStage b s).keyin = s.keyin := rfl
@[simp] theorem setStage_st (b : Block) (s : State) : (setStage b s).st = b := rfl
@[simp] theorem setStage_rk (b : Block) (s : State) : (setStage b s).rk = s.rk := rfl
@[simp] theorem setStage_ksv (b : Block) (s : State) : (setStage b s).ksv = s.ksv := rfl
@[simp] theorem setStage_keyReq (b : Block) (s : State) : (setStage b s).keyReq = s.keyReq := rfl
@[simp] theorem setStage_pend (b : Block) (s : State) : (setStage b s).pend = s.pend := rfl
@[simp] theorem setStage_mode (b : Block) (s : State) : (setStage b s).mode = s.mode := rfl
@[simp] theorem setStage_ebuf (b : Block) (s : State) : (setStage b s).ebuf = s.ebuf := rfl
@[simp] theorem setStage_ecnt (b : Block) (s : State) : (setStage b s).ecnt = s.ecnt := rfl
@[simp] theorem setStage_dbuf (b : Block) (s : State) : (setStage b s).dbuf = s.dbuf := rfl
@[simp] theorem setStage_dcnt (b : Block) (s : State) : (setStage b s).dcnt = s.dcnt := rfl
@[simp] theorem setStage_pbuf (b : Block) (s : State) : (setStage b s).pbuf = s.pbuf := rfl
@[simp] theorem setStage_pvalid (b : Block) (s : State) : (setStage b s).pvalid = s.pvalid := rfl
@[simp] theorem setStage_lopen (b : Block) (s : State) : (setStage b s).lopen = s.lopen := rfl
@[simp] theorem setStage_busy (b : Block) (s : State) : (setStage b s).busy = s.busy := rfl
@[simp] theorem setStage_cmdlatch (b : Block) (s : State) : (setStage b s).cmdlatch = s.cmdlatch := rfl
@[simp] theorem setStage_err (b : Block) (s : State) : (setStage b s).err = s.err := rfl
@[simp] theorem setStage_sink (b : Block) (s : State) : (setStage b s).sink = s.sink := rfl
@[simp] theorem setStage_lines (b : Block) (s : State) : (setStage b s).lines = s.lines := rfl
@[simp] theorem setStage_host (b : Block) (s : State) : (setStage b s).host = s.host := rfl
@[simp] theorem setStage_reads (b : Block) (s : State) : (setStage b s).reads = s.reads := rfl
@[simp] theorem setStage_draws (b : Block) (s : State) : (setStage b s).draws = s.draws := rfl

end SetStage

section LoadSchedule

@[simp] theorem loadSchedule_lenpol (s : State) : (loadSchedule s).lenpol = s.lenpol := rfl
@[simp] theorem loadSchedule_errinfo (s : State) : (loadSchedule s).errinfo = s.errinfo := rfl
@[simp] theorem loadSchedule_din (s : State) : (loadSchedule s).din = s.din := rfl
@[simp] theorem loadSchedule_dout (s : State) : (loadSchedule s).dout = s.dout := rfl
@[simp] theorem loadSchedule_keyin (s : State) : (loadSchedule s).keyin = zeroQuad := rfl
@[simp] theorem loadSchedule_st (s : State) : (loadSchedule s).st = s.st := rfl
@[simp] theorem loadSchedule_rk (s : State) : (loadSchedule s).rk = keyExpansion (w2b s.keyin) := rfl
@[simp] theorem loadSchedule_ksv (s : State) : (loadSchedule s).ksv = true := rfl
@[simp] theorem loadSchedule_keyReq (s : State) : (loadSchedule s).keyReq = s.keyReq := rfl
@[simp] theorem loadSchedule_pend (s : State) : (loadSchedule s).pend = s.pend := rfl
@[simp] theorem loadSchedule_mode (s : State) : (loadSchedule s).mode = s.mode := rfl
@[simp] theorem loadSchedule_ebuf (s : State) : (loadSchedule s).ebuf = s.ebuf := rfl
@[simp] theorem loadSchedule_ecnt (s : State) : (loadSchedule s).ecnt = s.ecnt := rfl
@[simp] theorem loadSchedule_dbuf (s : State) : (loadSchedule s).dbuf = s.dbuf := rfl
@[simp] theorem loadSchedule_dcnt (s : State) : (loadSchedule s).dcnt = s.dcnt := rfl
@[simp] theorem loadSchedule_pbuf (s : State) : (loadSchedule s).pbuf = s.pbuf := rfl
@[simp] theorem loadSchedule_pvalid (s : State) : (loadSchedule s).pvalid = s.pvalid := rfl
@[simp] theorem loadSchedule_lopen (s : State) : (loadSchedule s).lopen = s.lopen := rfl
@[simp] theorem loadSchedule_busy (s : State) : (loadSchedule s).busy = s.busy := rfl
@[simp] theorem loadSchedule_cmdlatch (s : State) : (loadSchedule s).cmdlatch = s.cmdlatch := rfl
@[simp] theorem loadSchedule_err (s : State) : (loadSchedule s).err = s.err := rfl
@[simp] theorem loadSchedule_sink (s : State) : (loadSchedule s).sink = s.sink := rfl
@[simp] theorem loadSchedule_lines (s : State) : (loadSchedule s).lines = s.lines := rfl
@[simp] theorem loadSchedule_host (s : State) : (loadSchedule s).host = s.host := rfl
@[simp] theorem loadSchedule_reads (s : State) : (loadSchedule s).reads = s.reads := rfl
@[simp] theorem loadSchedule_draws (s : State) : (loadSchedule s).draws = s.draws := rfl

end LoadSchedule

end Sys2Proof.Machine
end

