-- ==== Sys2Proof/Laws/Ops.lean ====
section
/-! SUPPORT. What each shared operation can do, said once: a proof cites these instead of unfolding the operation. -/

namespace Sys2Proof.Machine

/-- The two transcriptions of the legality table agree (30_encoding.md R116). -/
theorem legal_iff_place (i : Instr) (s : State) : legal i s.mode s.keyReq = true ↔ placeOf s ∈ legalPlaces i := by
  unfold placeOf
  cases hk : s.keyReq <;> cases hm : s.mode <;> cases i <;> simp [legal, legalPlaces]

theorem legal_eq_false_iff_place (i : Instr) (s : State) :
    legal i s.mode s.keyReq = false ↔ placeOf s ∉ legalPlaces i := by
  rw [← legal_iff_place, Bool.not_eq_true]

/-- A command that passes both checks runs its own rule. -/
theorem checked_of_passes {i : Instr} {s : State} {body : Result} (hl : legal i s.mode s.keyReq = true)
    (ho : operandOk i = true) : checked i s body = body := by simp [checked, hl, ho]

theorem checked_of_illegal {i : Instr} {s : State} {body : Result} (hl : legal i s.mode s.keyReq = false) :
    checked i s body = .next (raise .seq (encode i) s) := by simp [checked, hl]

theorem checked_of_operand {i : Instr} {s : State} {body : Result} (hl : legal i s.mode s.keyReq = true)
    (ho : operandOk i = false) : checked i s body = .next (raise .operand (encode i) s) := by simp [checked, hl, ho]

/-- Everything a checked command can answer. -/
theorem checked_next {i : Instr} {s t : State} {body : Result} (h : checked i s body = .next t) :
    (legal i s.mode s.keyReq = true ∧ operandOk i = true ∧ body = .next t) ∨
      (legal i s.mode s.keyReq = false ∧ t = raise .seq (encode i) s) ∨
      (operandOk i = false ∧ t = raise .operand (encode i) s) := by
  unfold checked at h
  split at h
  · split at h
    · exact .inl ⟨‹_›, ‹_›, h⟩
    · exact .inr (.inr ⟨by simp_all, by cases h; rfl⟩)
  · exact .inr (.inl ⟨by simp_all, by cases h; rfl⟩)

theorem needSchedule_of_valid {i : Instr} {s : State} {body : Result} (h : s.ksv = true) :
    needSchedule i s body = body := by simp [needSchedule, h]

theorem needSchedule_of_absent {i : Instr} {s : State} {body : Result} (h : s.ksv = false) :
    needSchedule i s body = .next (requestKey (encode i) s) := by simp [needSchedule, h]

/-- Everything a command that needs the schedule can answer. -/
theorem needSchedule_next {i : Instr} {s t : State} {body : Result} (h : needSchedule i s body = .next t) :
    (s.ksv = true ∧ body = .next t) ∨ (s.ksv = false ∧ t = requestKey (encode i) s) := by
  unfold needSchedule at h
  split at h
  · exact .inl ⟨‹_›, h⟩
  · exact .inr ⟨by simp_all, by cases h; rfl⟩

/-- Everything Push can answer (41_stream_adapter.md R183). -/
theorem push_next {i : Instr} {e : Byte} {s t : State} (h : push i e s = .next t) :
    (s.ecnt ≠ 15 ∧ t = bufferElement e s) ∨ (s.ecnt = 15 ∧ s.ksv = true ∧ t = emitFull e s) ∨
      (s.ecnt = 15 ∧ s.ksv = false ∧ t = requestKey (encode i) s) := by
  unfold push at h
  split at h
  · obtain ⟨hk, h⟩ | ⟨hk, h⟩ := needSchedule_next h
    · exact .inr (.inl ⟨‹_›, hk, by cases h; rfl⟩)
    · exact .inr (.inr ⟨‹_›, hk, h⟩)
  · exact .inl ⟨‹_›, by cases h; rfl⟩

/-- Deliver touches LINES and LOPEN only. -/
theorem deliver_frame (p : List Byte) (s : State) :
    deliver p s = { s with lines := (deliver p s).lines, lopen := (deliver p s).lopen } := by
  induction p generalizing s with
  | nil => rfl
  | cons x q ih =>
    have hx : deliverByte x s = { s with lines := (deliverByte x s).lines, lopen := (deliverByte x s).lopen } := by
      unfold deliverByte; split <;> rfl
    simp only [deliver]
    rw [ih, hx]

theorem deliverHeld_frame (s : State) :
    deliverHeld s = { s with lines := (deliverHeld s).lines, lopen := (deliverHeld s).lopen } := by
  unfold deliverHeld
  split
  · exact deliver_frame _ _
  · rfl

theorem deliverLast_frame (s : State) :
    deliverLast s = { s with lines := (deliverLast s).lines, lopen := (deliverLast s).lopen } := by
  unfold deliverLast
  split
  · exact deliver_frame _ _
  · rfl

theorem closeLine_frame (s : State) : closeLine s = { s with lines := (closeLine s).lines } := by
  unfold closeLine; split <;> rfl

/-- StripZ never makes a sequence longer. -/
theorem stripZ_length_le (p : List Byte) : (stripZ p).length ≤ p.length := by
  induction p with
  | nil => simp [stripZ]
  | cons x q ih => simp only [stripZ]; split <;> simp [ih]

@[simp] theorem blockBytes_length (b : Block) : (blockBytes b).length = 16 := rfl

/-- A word that decodes names its command by OP and ARG (30_encoding.md R113). -/
theorem instrOf_of_decode {w : Word} {i : Instr} (h : decode w = .instr i) :
    instrOf (opField w) (argField w) = some i := by
  unfold decode at h
  split at h
  · cases h
  · split at h
    · cases h
    · split at h
      · cases h
      · rename_i hi _; cases h; exact hi

/-- A latched error stays (60_exceptions.md R362). -/
theorem raise_of_latched {e : ErrCode} {info : Word} {s : State} (h : s.err ≠ .none) : raise e info s = s := by
  simp [raise, h]

theorem raise_of_clear {e : ErrCode} {info : Word} {s : State} (h : s.err = .none) :
    raise e info s = { s with err := e, errinfo := info } := by simp [raise, h]

/-- Everything an access can answer (20_memory.md R80, R81). -/
theorem access_next {off width : Nat} {act : Reg → State} {t : State} (h : access off width act = .next t) :
    ∃ r, regAt off = some r ∧ t = act r := by
  unfold access at h
  split at h
  · split at h
    · exact ⟨_, ‹_›, by cases h; rfl⟩
    · cases h
  · cases h

/-- The outside world has the turn exactly when its next action is no poll (log entry 2). -/
theorem coreTurn_eq_false_iff {h : List HostAction} : coreTurn h = false ↔ ∃ a rest, h = a :: rest ∧ a ≠ .poll := by
  cases h with
  | nil => simp [coreTurn]
  | cons a rest => cases a <;> simp [coreTurn]

/-- Everything a step can answer: a core step or an action of the outside world. -/
theorem step_cases (s : State) :
    (s.busy = true ∧ coreTurn s.host = true ∧ step s = coreStep s) ∨
      ((s.busy = false ∨ coreTurn s.host = false) ∧ step s = outsideStep s) := by
  unfold step
  cases s.busy <;> cases coreTurn s.host <;> simp

/-- Everything a core step can answer (30_encoding.md R118). -/
theorem coreStep_next {s t : State} (h : coreStep s = .next t) :
    (∃ why, decode s.cmdlatch = .reserved why ∧ t = raise .notimpl s.cmdlatch (takeCommand s)) ∨
      ∃ i, decode s.cmdlatch = .instr i ∧ exec i (takeCommand s) = .next t := by
  unfold coreStep at h
  split at h
  · exact .inl ⟨_, ‹_›, by cases h; rfl⟩
  · exact .inr ⟨_, ‹_›, h⟩

/-- Everything the outside world's step can answer. -/
theorem outsideStep_next {s t : State} (h : outsideStep s = .next t) :
    (s.host = [] ∧ t = s) ∨ ∃ a rest, s.host = a :: rest ∧ hostStep a { s with host := rest } = .next t := by
  unfold outsideStep at h
  split at h
  · exact .inl ⟨‹_›, by cases h; rfl⟩
  · exact .inr ⟨_, _, ‹_›, h⟩

end Sys2Proof.Machine
end

