-- ==== Sys2Proof/Laws/PerInstr.lean ====
section
/-! SUPPORT. Statements about every command, one lemma per constructor: the opcode map read both ways
(30_encoding.md R113), and the operand check of the core step against well-formedness (R117). -/

namespace Sys2Proof.Laws.OpcodeMap

/-- OP and ARG of a command name that command (30_encoding.md R113). -/
def Statement (i : Instr) : Prop := instrOf (opcode i) (argByte i) = some i

theorem nop : Statement (.nop) := rfl
theorem clrErr : Statement (.clrErr) := rfl
theorem abort : Statement (.abort) := rfl
theorem keyExpand : Statement (.keyExpand) := rfl
theorem keyFail : Statement (.keyFail) := rfl
theorem keyClear : Statement (.keyClear) := rfl
theorem rkRead (x : Byte) : Statement (.rkRead x) := rfl
theorem encBlock : Statement (.encBlock) := rfl
theorem decBlock : Statement (.decBlock) := rfl
theorem stLoad : Statement (.stLoad) := rfl
theorem stSubbytes : Statement (.stSubbytes) := rfl
theorem stShiftrows : Statement (.stShiftrows) := rfl
theorem stMixcolumns : Statement (.stMixcolumns) := rfl
theorem stAddrk (x : Byte) : Statement (.stAddrk x) := rfl
theorem stInvsubbytes : Statement (.stInvsubbytes) := rfl
theorem stInvshiftrows : Statement (.stInvshiftrows) := rfl
theorem stInvmixcolumns : Statement (.stInvmixcolumns) := rfl
theorem encBegin : Statement (.encBegin) := rfl
theorem encByte (x : Byte) : Statement (.encByte x) := rfl
theorem encEol : Statement (.encEol) := rfl
theorem encEnd : Statement (.encEnd) := rfl
theorem decBegin : Statement (.decBegin) := rfl
theorem decByte (x : Byte) : Statement (.decByte x) := rfl
theorem decEnd : Statement (.decEnd) := rfl

end Sys2Proof.Laws.OpcodeMap

namespace Sys2Proof.Laws.OperandRange

/-- A command is well formed exactly when the operand check lets it pass (30_encoding.md R111, R117). -/
def Statement (i : Instr) : Prop := i.wellFormed = Machine.operandOk i

theorem nop : Statement (.nop) := rfl
theorem clrErr : Statement (.clrErr) := rfl
theorem abort : Statement (.abort) := rfl
theorem keyExpand : Statement (.keyExpand) := rfl
theorem keyFail : Statement (.keyFail) := rfl
theorem keyClear : Statement (.keyClear) := rfl
theorem rkRead (x : Byte) : Statement (.rkRead x) := rfl
theorem encBlock : Statement (.encBlock) := rfl
theorem decBlock : Statement (.decBlock) := rfl
theorem stLoad : Statement (.stLoad) := rfl
theorem stSubbytes : Statement (.stSubbytes) := rfl
theorem stShiftrows : Statement (.stShiftrows) := rfl
theorem stMixcolumns : Statement (.stMixcolumns) := rfl
theorem stAddrk (x : Byte) : Statement (.stAddrk x) := rfl
theorem stInvsubbytes : Statement (.stInvsubbytes) := rfl
theorem stInvshiftrows : Statement (.stInvshiftrows) := rfl
theorem stInvmixcolumns : Statement (.stInvmixcolumns) := rfl
theorem encBegin : Statement (.encBegin) := rfl
theorem encByte (x : Byte) : Statement (.encByte x) := rfl
theorem encEol : Statement (.encEol) := rfl
theorem encEnd : Statement (.encEnd) := rfl
theorem decBegin : Statement (.decBegin) := rfl
theorem decByte (x : Byte) : Statement (.decByte x) := rfl
theorem decEnd : Statement (.decEnd) := rfl

end Sys2Proof.Laws.OperandRange
end

