-- ==== Sys2Proof/Tests/Slice0.lean ====
section
/-! SUPPORT. Tests of the author's own: decoding by words written out from 30_encoding.md R113 and R114, single commands on
small states with expected values from 95_test_vectors.md (V1 to V13, P1 to P6) or worked by hand from the rule cited, and a
witness for the hypotheses of each statement in Certificates/Slice0/Obligations.lean. -/

namespace Sys2Proof.Tests

open Sys2Proof.Machine

/-! ## Well-formed commands (30_encoding.md R111, R117) -/

theorem test_wellFormed_refuses_round_above_ten :
    (Instr.rkRead 11).wellFormed = false ∧ (Instr.rkRead 255).wellFormed = false ∧
    (Instr.stAddrk 11).wellFormed = false ∧ (Instr.stAddrk 255).wellFormed = false := by decide

theorem test_wellFormed_admits :
    (Instr.rkRead 10).wellFormed = true ∧ (Instr.stAddrk 0).wellFormed = true ∧ (Instr.encByte 255).wellFormed = true ∧
    Instr.decEnd.wellFormed = true := by decide

/-! ## Decoding: RSV 31:16, ARG 15:8, OP 7:0, written out in bits (R110, R113, R114) -/

theorem test_decode_control :
    decode 0b0000000000000000_00000000_00000000 = .instr .nop ∧
    decode 0b0000000000000000_00000000_00000001 = .instr .clrErr ∧
    decode 0b0000000000000000_00000000_00000010 = .instr .abort := by decide

theorem test_decode_key :
    decode 0b0000000000000000_00000000_00001000 = .instr .keyExpand ∧
    decode 0b0000000000000000_00000000_00001001 = .instr .keyFail ∧
    decode 0b0000000000000000_00000000_00001010 = .instr .keyClear ∧
    decode 0b0000000000000000_00001010_00001011 = .instr (.rkRead 10) ∧
    decode 0b0000000000000000_10000001_00001011 = .instr (.rkRead 129) := by decide

theorem test_decode_block :
    decode 0b0000000000000000_00000000_00010000 = .instr .encBlock ∧
    decode 0b0000000000000000_00000000_00010001 = .instr .decBlock := by decide

theorem test_decode_stage :
    decode 0b0000000000000000_00000000_00100000 = .instr .stLoad ∧
    decode 0b0000000000000000_00000000_00100001 = .instr .stSubbytes ∧
    decode 0b0000000000000000_00000000_00100010 = .instr .stShiftrows ∧
    decode 0b0000000000000000_00000000_00100011 = .instr .stMixcolumns ∧
    decode 0b0000000000000000_00000110_00100100 = .instr (.stAddrk 6) ∧
    decode 0b0000000000000000_11111111_00100100 = .instr (.stAddrk 255) := by decide

theorem test_decode_inverse_stage :
    decode 0b0000000000000000_00000000_00100101 = .instr .stInvsubbytes ∧
    decode 0b0000000000000000_00000000_00100110 = .instr .stInvshiftrows ∧
    decode 0b0000000000000000_00000000_00100111 = .instr .stInvmixcolumns := by decide

theorem test_decode_encode_stream :
    decode 0b0000000000000000_00000000_00110000 = .instr .encBegin ∧
    decode 0b0000000000000000_01010100_00110001 = .instr (.encByte 0x54) ∧
    decode 0b0000000000000000_10000001_00110001 = .instr (.encByte 0x81) ∧
    decode 0b0000000000000000_00000000_00110010 = .instr .encEol ∧
    decode 0b0000000000000000_00000000_00110011 = .instr .encEnd := by decide

theorem test_decode_decode_stream :
    decode 0b0000000000000000_00000000_00111000 = .instr .decBegin ∧
    decode 0b0000000000000000_11000011_00111001 = .instr (.decByte 0xC3) ∧
    decode 0b0000000000000000_00000000_00111010 = .instr .decEnd := by decide

/-- V12's reserved words, RSV before OP before ARG. -/
theorem test_decode_reserved :
    decode 0x00010000 = .reserved .rsvBits ∧ decode 0x80000030 = .reserved .rsvBits ∧
    decode 0x00010031 = .reserved .rsvBits ∧ decode 0x00000003 = .reserved .undefinedOpcode ∧
    decode 0x000000FF = .reserved .undefinedOpcode ∧ decode 0x00000040 = .reserved .undefinedOpcode ∧
    decode 0x00000100 = .reserved .argNotZero ∧ decode 0x0000013A = .reserved .argNotZero := by decide

theorem test_table_words :
    decodeTableWord 32 0x00005431 = some (.encByte 0x54) ∧ decodeTableWord 32 0x00000A24 = some (.stAddrk 10) ∧
    decodeTableWord 32 0x00000040 = none ∧ decodeTableWord 8 0x33 = some .encEnd := by decide

/-! ## Small states -/

/-- What `f` sees of the next state, if there is one. -/
def after {α : Type} (f : State → α) (r : Result) : Option α :=
  match r with
  | .next t => some (f t)
  | .fault _ => none
  | .refused _ => none

/-- STATUS, ERRINFO after the step. -/
def statusAfter (r : Result) : Option (Word × Word) := after (fun t => (statusWord t, t.errinfo)) r

/-- The registers of V1's key, plaintext and ciphertext. -/
def keyQuad : Quad := ⟨0x54686174, 0x73206D79, 0x204B756E, 0x67204675⟩
def plainQuad : Quad := ⟨0x54776F20, 0x4F6E6520, 0x4E696E65, 0x2054776F⟩
def codeQuad : Quad := ⟨0x29C3505F, 0x571420F6, 0x402299B3, 0x1A02D73A⟩

/-- RK[10] of V2 and of the all-zero key in V7. -/
def lastKeyQuad : Quad := ⟨0x28FDDEF8, 0x6DA4244A, 0xCCC0A4FE, 0x3B316F26⟩
def lastZeroKeyQuad : Quad := ⟨0xB4EF5BCB, 0x3E92E211, 0x23E951CF, 0x6F8F188E⟩

/-- The bytes 00 to 0F of V9. -/
def countQuad : Quad := ⟨0x00010203, 0x04050607, 0x08090A0B, 0x0C0D0E0F⟩

def fresh : State := State.reset

/-- The schedule of the all-zero key is loaded; DIN holds zeros. -/
def keyed : State := { fresh with rk := keyExpansion zeroBlock, ksv := true }

/-- ENC_BLOCK waits for its key. -/
def waiting : State := { fresh with keyReq := true, pend := 0x00000010 }

/-- A session with `n` bytes in the buffer of its direction, all 0x41, and no schedule. -/
def encAt (n : BitVec 4) : State :=
  { fresh with mode := .enc, ecnt := n, ebuf := padBlock (List.replicate n.toNat 0x41) }

def decAt (n : BitVec 4) : State :=
  { fresh with mode := .dec, dcnt := n, dbuf := padBlock (List.replicate n.toNat 0x41) }

/-- An encode session whose ENC_BYTE 'A' waits for its key. -/
def encWaiting : State := { encAt 15 with keyReq := true, pend := 0x00004131 }

/-- A decode session that holds back the bytes 48 69 0A 0A and zeros. -/
def holding : State :=
  { decAt 0 with
    rk := keyExpansion zeroBlock
    ksv := true
    pbuf := padBlock [0x48, 0x69, 0x0A, 0x0A]
    pvalid := true }

/-- `w` is latched. -/
def latched (w : Word) : State := { fresh with busy := true, cmdlatch := w }

/-- P6 rows 27 and 28: NOP is latched, and a DIN write comes before its core step. -/
def inWindow : State := { latched 0 with host := [.write 0x10 4 0x12345678, .poll] }

/-- SeqError is latched. -/
def failed : State := { fresh with err := .seq, errinfo := 0x00000033 }

/-! ## The first step after reset, with the word at CMD: STATUS and ERRINFO of V12 -/

theorem test_step_from_reset :
    statusAfter (step (fresh.withFetchWord 32 0x00000000)) = some (0x00000000, 0x00000000) ∧
    statusAfter (step (fresh.withFetchWord 32 0x00000010)) = some (0x00000004, 0x00000000) ∧
    statusAfter (step (fresh.withFetchWord 32 0x0000000B)) = some (0x00000000, 0x00000000) ∧
    statusAfter (step (fresh.withFetchWord 32 0x00000A0B)) = some (0x00000000, 0x00000000) ∧
    statusAfter (step (fresh.withFetchWord 32 0x00000124)) = some (0x00000004, 0x00000000) ∧
    statusAfter (step (fresh.withFetchWord 32 0x00000030)) = some (0x00000010, 0x00000000) ∧
    statusAfter (step (fresh.withFetchWord 32 0x00000038)) = some (0x00000020, 0x00000000) ∧
    statusAfter (step (fresh.withFetchWord 32 0x00000002)) = some (0x00000000, 0x00000000) := by decide +kernel

theorem test_step_errors_from_reset :
    statusAfter (step (fresh.withFetchWord 32 0x00000B0B)) = some (0x00000600, 0x00000B0B) ∧
    statusAfter (step (fresh.withFetchWord 32 0x0000FF24)) = some (0x00000600, 0x0000FF24) ∧
    statusAfter (step (fresh.withFetchWord 32 0x00000100)) = some (0x00000100, 0x00000100) ∧
    statusAfter (step (fresh.withFetchWord 32 0x80000030)) = some (0x00000100, 0x80000030) ∧
    statusAfter (step (fresh.withFetchWord 32 0x00000040)) = some (0x00000100, 0x00000040) ∧
    statusAfter (step (fresh.withFetchWord 32 0x00004131)) = some (0x00000200, 0x00004131) ∧
    statusAfter (step (fresh.withFetchWord 32 0x00000B31)) = some (0x00000200, 0x00000B31) ∧
    statusAfter (step (fresh.withFetchWord 32 0x00010031)) = some (0x00000100, 0x00010031) ∧
    statusAfter (step (fresh.withFetchWord 32 0x00000009)) = some (0x00000200, 0x00000009) := by decide +kernel

/-! ## Control commands (45_control.md R340 to R342) -/

theorem test_nop_keeps_latch : statusAfter (exec .nop failed) = some (0x00000200, 0x00000033) := by decide

theorem test_clrErr_reopens : statusAfter (exec .clrErr failed) = some (0x00000000, 0x00000000) := by decide

/-- P6 row 24: CLR_ERR while a key is requested leaves the request. -/
theorem test_clrErr_keeps_request :
    statusAfter (exec .clrErr { encWaiting with err := .seq, errinfo := 0x00004231 }) = some (0x000F0014, 0x00000000) := by
  decide

theorem test_abort_drops_all :
    after (fun t => (statusWord t, t.rk, t.pend, t.keyin)) (exec .abort { encWaiting with keyin := keyQuad }) =
      some (0x00000000, zeroKeys, 0x00000000, zeroQuad) := by decide

/-! ## Key commands (42_key_schedule.md; V2, V7) -/

/-- V7: RK[10] of the all-zero key; KEYIN holds 0 afterwards. -/
theorem test_keyExpand_last_round_key :
    after (fun t => (statusWord t, b2w t.rk.k10, t.keyin)) (exec .keyExpand fresh) =
      some (0x00000002, lastZeroKeyQuad, zeroQuad) := by decide +kernel

/-- P1 row 10: KEY_EXPAND answers the request of ENC_BLOCK, which runs in the same step. -/
theorem test_keyExpand_resumes_encBlock :
    after (fun t => (statusWord t, t.dout)) (exec .keyExpand { waiting with din := plainQuad, keyin := keyQuad }) =
      some (0x00000002, codeQuad) := by decide +kernel

/-- P6 row 25: KEY_FAIL ends the session with KeyError(PEND). -/
theorem test_keyFail_ends_session :
    after (fun t => (statusWord t, t.errinfo, t.sink)) (exec .keyFail encWaiting) =
      some (0x00000400, 0x00004131, []) := by decide

theorem test_keyClear : after (fun t => (statusWord t, t.rk)) (exec .keyClear keyed) = some (0x00000000, zeroKeys) := by
  decide +kernel

/-- V2: RK_READ 10 of V1's key. -/
theorem test_rkRead_ten :
    after State.dout (exec (.rkRead 10) { fresh with rk := keyExpansion (w2b keyQuad), ksv := true }) =
      some lastKeyQuad := by decide +kernel

theorem test_rkRead_without_schedule :
    after (fun t => (statusWord t, t.dout)) (exec (.rkRead 0) { fresh with dout := countQuad }) =
      some (0x00000000, zeroQuad) := by decide

/-! ## Block commands (V8) -/

/-- V8, first row. -/
theorem test_encBlock_zero :
    after State.dout (exec .encBlock keyed) = some ⟨0x66E94BD4, 0xEF8A2C3B, 0x884CFA59, 0xCA342B2E⟩ := by decide +kernel

/-- V8, the first row of its second table: a block no encryption gave. -/
theorem test_decBlock_zero :
    after State.dout (exec .decBlock keyed) = some ⟨0x140F0F10, 0x11B5223D, 0x79587717, 0xFFD9EC3A⟩ := by decide +kernel

/-! ## Stage commands (V3, V9) -/

theorem test_stLoad :
    after (fun t => (t.dout, blockGet t.st 1, blockGet t.st 4)) (exec .stLoad { fresh with din := countQuad }) =
      some (countQuad, 0x01, 0x04) := by decide +kernel

theorem test_stSubbytes :
    after State.dout (exec .stSubbytes { fresh with st := w2b countQuad }) =
      some ⟨0x637C777B, 0xF26B6FC5, 0x3001672B, 0xFED7AB76⟩ := by decide +kernel

theorem test_stShiftrows :
    after State.dout (exec .stShiftrows { fresh with st := w2b countQuad }) =
      some ⟨0x00050A0F, 0x04090E03, 0x080D0207, 0x0C01060B⟩ := by decide +kernel

theorem test_stMixcolumns :
    after State.dout (exec .stMixcolumns { fresh with st := w2b countQuad }) =
      some ⟨0x02070005, 0x06030401, 0x0A0F080D, 0x0E0B0C09⟩ := by decide +kernel

/-- V9's single columns. -/
theorem test_stMixcolumns_columns :
    after State.dout (exec .stMixcolumns { fresh with st := w2b ⟨0xDB135345, 0xF20A225C, 0xD4D4D4D5, 0x2D26314C⟩ }) =
      some ⟨0x8E4DA1BC, 0x9FDC589D, 0xD5D5D7D6, 0x4D7EBDF8⟩ := by decide +kernel

/-- V3, row r0 ark. -/
theorem test_stAddrk_zero :
    after State.dout (exec (.stAddrk 0) { keyed with
      st := w2b plainQuad
      rk := { zeroKeys with k0 := w2b keyQuad } }) =
      some ⟨0x001F0E54, 0x3C4E0859, 0x6E221B0B, 0x4774311A⟩ := by decide +kernel

theorem test_stAddrk_waits :
    after (fun t => (statusWord t, t.pend, t.dout)) (exec (.stAddrk 10) fresh) =
      some (0x00000004, 0x00000A24, zeroQuad) := by decide

theorem test_stInvsubbytes :
    after State.dout (exec .stInvsubbytes { fresh with st := w2b ⟨0x637C777B, 0xF26B6FC5, 0x3001672B, 0xFED7AB76⟩ }) =
      some countQuad := by decide +kernel

theorem test_stInvshiftrows :
    after State.dout (exec .stInvshiftrows { fresh with st := w2b countQuad }) =
      some ⟨0x000D0A07, 0x04010E0B, 0x0805020F, 0x0C090603⟩ := by decide +kernel

theorem test_stInvmixcolumns :
    after State.dout (exec .stInvmixcolumns { fresh with st := w2b ⟨0x8E4DA1BC, 0x9FDC589D, 0xD5D5D7D6, 0x4D7EBDF8⟩ }) =
      some ⟨0xDB135345, 0xF20A225C, 0xD4D4D4D5, 0x2D26314C⟩ := by decide +kernel

/-! ## The field (V5) and the S-boxes (V6) -/

theorem test_field :
    xtime 0x80 = 0x1B ∧ xtime 0xFF = 0xE5 ∧ gmul 0x57 0x83 = 0xC1 ∧ gmul 0x0E 0x8E = 0x15 ∧ gmul 0x09 0xBC = 0x2B ∧
    gmul 0xFF 0xFF = 0x13 := by decide

theorem test_sboxes :
    sbox 0x10 = 0xCA ∧ sbox 0x8D = 0x5D ∧ sbox 0xFF = 0x16 ∧ invSbox 0x63 = 0x00 ∧ invSbox 0x9A = 0x37 ∧
    invSbox 0xF0 = 0x17 := by decide

/-! ## The encode stream (41_stream_adapter.md; V10, P6) -/

theorem test_encBegin_destroys_schedule :
    after (fun t => (statusWord t, t.rk)) (exec .encBegin keyed) = some (0x00000010, zeroKeys) := by decide +kernel

/-- P6 rows 21 and 22: the fifteenth element is buffered, the sixteenth asks for the key and is not lost. -/
theorem test_encByte_requests_at_sixteen :
    after statusWord (exec (.encByte 0x41) (encAt 14)) = some 0x000F0010 ∧
    after (fun t => (statusWord t, t.pend)) (exec (.encByte 0x41) (encAt 15)) = some (0x000F0014, 0x00004131) := by decide

/-- R183 by hand: with a schedule the sixteenth element emits one block and empties the buffer; V8's first row is the
ciphertext of zeros. -/
theorem test_encByte_emits :
    after (fun t => (statusWord t, t.sink)) (exec (.encByte 0x00) { keyed with mode := .enc, ecnt := 15 }) =
      some (0x00000012, [0x66, 0xE9, 0x4B, 0xD4, 0xEF, 0x8A, 0x2C, 0x3B, 0x88, 0x4C, 0xFA, 0x59, 0xCA, 0x34, 0x2B, 0x2E]) := by
  decide +kernel

theorem test_encEol_pushes_newline :
    after (fun t => (t.ecnt, blockGet t.ebuf 2, blockGet t.ebuf 3)) (exec .encEol (encAt 2)) =
      some (3, 0x0A, 0x00) := by decide +kernel

/-- V10, L = 0: an empty call emits nothing and asks for nothing. -/
theorem test_encEnd_empty :
    after (fun t => (statusWord t, t.sink)) (exec .encEnd (encAt 0)) = some (0x00000000, []) := by decide

/-- V10, L = 1: the element 41, padded. -/
theorem test_encEnd_pads :
    after (fun t => (statusWord t, t.sink)) (exec .keyExpand { encAt 1 with
      keyReq := true
      pend := 0x00000033
      keyin := keyQuad }) =
      some (0x00000000, [0x55, 0x08, 0x63, 0xF3, 0x58, 0x3B, 0x3E, 0xBC, 0x62, 0x47, 0x8A, 0x7B, 0x30, 0x7E, 0x35, 0xF1]) := by
  decide +kernel

/-! ## The decode stream (V11, P5) -/

theorem test_decBegin_destroys_schedule :
    after (fun t => (statusWord t, t.rk)) (exec .decBegin keyed) = some (0x00000020, zeroKeys) := by decide +kernel

/-- P5 rows 17 and 18. -/
theorem test_decByte_requests_at_sixteen :
    after statusWord (exec (.decByte 0xD7) (decAt 14)) = some 0x00F00020 ∧
    after (fun t => (statusWord t, t.pend)) (exec (.decByte 0x3A) (decAt 15)) = some (0x00F00024, 0x00003A39) := by decide

/-- R194 by hand: the full block is held back, and the block held before it is delivered whole, its zeros too. -/
theorem test_decByte_holds_back :
    after (fun t => (statusWord t, t.lines)) (exec (.decByte 0x00) { holding with dcnt := 15 }) =
      some (0x03000022, [.lb 0x48, .lb 0x69, .le, .le, .lb 0, .lb 0, .lb 0, .lb 0, .lb 0, .lb 0, .lb 0, .lb 0, .lb 0, .lb 0,
        .lb 0, .lb 0]) := by decide +kernel

/-- V11: the last block stripped to 48 69 0A 0A, two ends of line, none added. -/
theorem test_decEnd_strips :
    after (fun t => (statusWord t, t.lines)) (exec .decEnd holding) =
      some (0x00000000, [.lb 0x48, .lb 0x69, .le, .le]) := by decide +kernel

/-- P5 row 28: under REJECT a partial block ends the call with LengthError and the count. -/
theorem test_decEnd_rejects :
    after (fun t => (statusWord t, t.errinfo, t.lines)) (exec .decEnd { holding with lenpol := true, dcnt := 4 }) =
      some (0x00000500, 0x00000004, []) := by decide +kernel

theorem test_stripZ :
    stripZ [0x48, 0x69, 0x0A, 0x0A, 0x00, 0x00] = [0x48, 0x69, 0x0A, 0x0A] ∧ stripZ [0x00, 0x00] = [] ∧
    stripZ [0x00, 0x41, 0x00] = [0x00, 0x41] ∧ stripZ [0x00, 0x01] = [0x00, 0x01] := by decide

/-! ## The host's accesses (45_control.md R343, R344; V13, P6) -/

/-- P6 rows 27 to 29: a CMD write, a DIN write in the busy window, the core step. -/
theorem test_busy_window :
    statusAfter (hostStep (.write 0x08 4 0x00000000) fresh) = some (0x00000001, 0x00000000) ∧
    statusAfter (hostStep (.write 0x10 4 0x12345678) (latched 0)) = some (0x00000301, 0x00000010) ∧
    after State.din (hostStep (.write 0x10 4 0x12345678) (latched 0)) = some zeroQuad ∧
    statusAfter (step { latched 0 with err := .busy, errinfo := 0x00000010 }) = some (0x00000300, 0x00000010) := by decide

/-- P6 rows 28 and 29, as steps: the write of the busy window is dropped with BusyError, then the core step comes. -/
theorem test_step_in_busy_window :
    statusAfter (step inWindow) = some (0x00000301, 0x00000010) ∧
    after State.host (step inWindow) = some [.poll] ∧ after State.din (step inWindow) = some zeroQuad ∧
    statusAfter (step { inWindow with host := [.poll], err := .busy, errinfo := 0x00000010 }) =
      some (0x00000300, 0x00000010) := by decide

/-- V13: CTRL after a write of all ones; a write-only register reads 0. -/
theorem test_host_accesses :
    after ctrlWord (hostStep (.write 0x00 4 0xFFFFFFFF) fresh) = some 0x00000001 ∧
    after State.reads (hostStep (.read 0x30 4) { fresh with keyin := keyQuad }) = some [(0x30, 0x00000000)] ∧
    after State.reads (hostStep (.read 0x04 4) encWaiting) = some [(0x04, 0x000F0014)] := by decide

/-! ## Witnesses: states and operands that meet the hypotheses of each statement, clause by clause -/

theorem reset_inv : fresh.Inv := by constructor <;> decide

theorem failed_inv : failed.Inv := by constructor <;> decide

theorem latched_inv : (latched 0x00000A24).Inv := by constructor <;> decide

theorem encWaiting_inv : encWaiting.Inv := by constructor <;> decide

theorem witness_DecodedWordIsItsEncoding : decode 0x0000FF24 = .instr (.stAddrk 255) := by decide

theorem witness_ReservedWordRaisesNotImplemented :
    (latched 0x00010000).busy = true ∧ coreTurn (latched 0x00010000).host = true ∧ ReservedWord 0x00010000 ∧
    ReservedWord 0x0000003B ∧ ReservedWord 0x0000013A := by
  refine ⟨rfl, rfl, .inl (by decide), .inr (.inl (by decide)), .inr (.inr (by decide))⟩

/-- Each clause of the core step: nothing latched; the outside world's turn in the busy window; a reserved word, an illegal command, an index 11, an index 10. -/
theorem witness_CoreStepChecksInOrder :
    fresh.busy = false ∧ (inWindow.busy = true ∧ coreTurn inWindow.host = false) ∧
    (latched 0x00000003).busy = true ∧ coreTurn (latched 0x00000003).host = true ∧
    decode (latched 0x00000003).cmdlatch = .reserved .undefinedOpcode ∧
    (decode (latched 0x00000033).cmdlatch = .instr .encEnd ∧ placeOf (latched 0x00000033) ∉ legalPlaces .encEnd) ∧
    (decode (latched 0x00000B24).cmdlatch = .instr (.stAddrk 11) ∧
      placeOf (latched 0x00000B24) ∈ legalPlaces (.stAddrk 11) ∧ argClass (.stAddrk 11) = .round ∧
      10 < (argField (latched 0x00000B24).cmdlatch).toNat) ∧
    (decode (latched 0x00000A24).cmdlatch = .instr (.stAddrk 10) ∧
      placeOf (latched 0x00000A24) ∈ legalPlaces (.stAddrk 10) ∧ (argField (latched 0x00000A24).cmdlatch).toNat ≤ 10) ∧
    (decode (latched 0x00000008).cmdlatch = .instr .keyExpand ∧
      placeOf (latched 0x00000008) ∈ legalPlaces .keyExpand ∧ argClass .keyExpand = .none) := by decide

theorem witness_StepRunsDecodedCommand :
    (latched 0x00000A24).busy = true ∧ coreTurn (latched 0x00000A24).host = true ∧
    decode (latched 0x00000A24).cmdlatch = .instr (.stAddrk 10) := by decide

theorem witness_StepHoldsWhenIdle :
    fresh.busy = false ∧ fresh.host = [] ∧ ({ fresh with host := [.poll, .reset] } : State).busy = false ∧
    ({ fresh with host := [.poll, .reset] } : State).host = .poll :: [.reset] ∧
    inWindow.host = .write 0x10 4 0x12345678 :: [.poll] ∧ inWindow.busy = true ∧
    HostAction.write 0x10 4 0x12345678 ≠ .poll := by decide

theorem witness_IllegalCommandRaisesSeqError :
    placeOf fresh ∉ legalPlaces .encEnd ∧ placeOf fresh ∉ legalPlaces .keyFail ∧
    placeOf (decAt 0) ∉ legalPlaces (.encByte 0x42) ∧ placeOf encWaiting ∉ legalPlaces (.encByte 0x42) := by decide

theorem witness_RoundIndexAboveTenRaisesOperandError :
    10 < (11 : Byte).toNat ∧ 10 < (255 : Byte).toNat ∧ fresh.mode = .idle ∧ fresh.keyReq = false := by decide

theorem witness_FirstErrorIsKept :
    fresh.err = .none ∧ failed.Inv ∧ failed.err ≠ .none ∧ Instr.nop ≠ .clrErr ∧ exec .nop failed = .next failed :=
  ⟨rfl, failed_inv, by decide, by decide, rfl⟩

/-- No request; a request from IDLE; a request from a session. -/
theorem witness_KeyExpandLoadsAndResumes :
    (fresh.mode = .idle ∧ fresh.keyReq = false) ∧
    (waiting.keyReq = true ∧ decode waiting.pend = .instr .encBlock ∧ waitsForKey waiting.pend waiting.mode = true) ∧
    (encWaiting.keyReq = true ∧ decode encWaiting.pend = .instr (.encByte 0x41) ∧
      waitsForKey encWaiting.pend encWaiting.mode = true) := by decide

theorem witness_KeyFailEndsTheCall :
    (waiting.keyReq = true ∧ waiting.mode = .idle) ∧ (encWaiting.keyReq = true ∧ encWaiting.mode ≠ .idle) := by decide

/-- IDLE with no request: KEY_CLEAR, the block and stage commands, the session starts, the whole calls. -/
theorem witness_idle : fresh.mode = .idle ∧ fresh.keyReq = false := by decide

theorem witness_RkReadShowsRoundKey :
    fresh.mode = .idle ∧ fresh.keyReq = false ∧ (10 : Byte).toNat ≤ 10 ∧ 10 < (11 : Byte).toNat := by decide

theorem witness_KeyScheduleRecurrence : (4 ≤ 4 ∧ 4 < 44) ∧ (4 ≤ 43 ∧ 43 < 44) ∧ (10 ≤ 10) := by decide

theorem witness_OnlyKeyExpandValidatesSchedule :
    (exec .nop fresh = .next fresh ∧ Instr.nop ≠ .keyExpand) ∧
    (placeOf fresh ∈ legalPlaces .keyClear ∧ exec .keyClear fresh = .next fresh) ∧
    (placeOf (encAt 0) ∈ legalPlaces .encEnd ∧ exec .encEnd (encAt 0) = .next fresh ∧ fresh.keyReq = false) ∧
    (placeOf encWaiting ∈ legalPlaces .keyFail ∧ encWaiting.mode ≠ .idle) ∧
    (fresh.ksv = false ∧ fresh.rk = zeroKeys) := by
  refine ⟨⟨rfl, by decide⟩, ⟨by decide, rfl⟩, ⟨by decide, rfl, rfl⟩, ⟨by decide, by decide⟩, rfl, rfl⟩

theorem witness_KeyRequestChangesOnlyTheRequest :
    (placeOf (encAt 15) ∈ legalPlaces .encEol ∧ operandOk .encEol = true ∧ needsBlock .encEol (encAt 15) = true ∧
      (encAt 15).ksv = false) ∧
    (placeOf (decAt 1) ∈ legalPlaces .decEnd ∧ needsBlock .decEnd (decAt 1) = true) ∧
    (placeOf keyed ∈ legalPlaces (.stAddrk 10) ∧ operandOk (.stAddrk 10) = true ∧
      needsBlock (.stAddrk 10) keyed = true ∧ keyed.ksv = true) := by decide

/-- ENC_BLOCK and DEC_BLOCK with and without a schedule. -/
theorem witness_BlockCommandsTransformDin :
    (keyed.mode = .idle ∧ keyed.keyReq = false ∧ keyed.ksv = true) ∧
    (fresh.mode = .idle ∧ fresh.keyReq = false ∧ fresh.ksv = false) := by decide

theorem witness_StAddrkAddsRoundKey :
    (fresh.mode = .idle ∧ fresh.keyReq = false ∧ fresh.ksv = false) ∧ (keyed.mode = .idle ∧ keyed.keyReq = false ∧
      keyed.ksv = true) ∧ 10 < (11 : Byte).toNat ∧ (10 : Byte).toNat ≤ 10 := by decide

theorem witness_DecBlockUndoesEncBlock : keyed.mode = .idle ∧ keyed.keyReq = false ∧ keyed.ksv = true := by decide

theorem witness_SboxFollowsItsDefinition : (0x53 : Byte) ≠ 0x00 ∧ gmul 0x53 0xCA = 0x01 := by decide

theorem witness_InverseTableAndRoundConstants : (1 ≤ 1 ∧ 1 ≤ 10) ∧ (1 ≤ 10 ∧ 10 ≤ 10) := by decide

theorem witness_EncodeElementBuffersOrEmits :
    (Instr.encByte 0x41 = .encByte 0x41 ∨ (Instr.encByte 0x41 = .encEol ∧ (0x41 : Byte) = 0x0A)) ∧
    ((encAt 14).mode = .enc ∧ (encAt 14).keyReq = false ∧ (encAt 14).ecnt ≠ 15) ∧
    ((encAt 15).mode = .enc ∧ (encAt 15).keyReq = false ∧ (encAt 15).ecnt = 15 ∧ (encAt 15).ksv = false) ∧
    (({ encAt 15 with ksv := true } : State).ecnt = 15 ∧ ({ encAt 15 with ksv := true } : State).ksv = true) := by decide

theorem witness_EncEndClosesTheCall :
    ((encAt 0).mode = .enc ∧ (encAt 0).keyReq = false ∧ (encAt 0).ecnt = 0) ∧
    ((encAt 1).mode = .enc ∧ (encAt 1).keyReq = false ∧ (encAt 1).ecnt ≠ 0 ∧ (encAt 1).ksv = false) ∧
    (({ encAt 15 with ksv := true } : State).ecnt ≠ 0 ∧ ({ encAt 15 with ksv := true } : State).ksv = true) := by decide

theorem witness_DecByteHoldsBlocksBack :
    ((decAt 14).mode = .dec ∧ (decAt 14).keyReq = false ∧ (decAt 14).dcnt ≠ 15) ∧
    ((decAt 15).dcnt = 15 ∧ (decAt 15).ksv = false) ∧
    (({ decAt 15 with ksv := true } : State).ksv = true ∧ (decAt 15).pvalid = false) ∧
    (({ holding with dcnt := 15 } : State).mode = .dec ∧ ({ holding with dcnt := 15 } : State).keyReq = false ∧
      ({ holding with dcnt := 15 } : State).ksv = true ∧ ({ holding with dcnt := 15 } : State).pvalid = true) := by decide

theorem witness_DecEndDeliversTheRest :
    (holding.mode = .dec ∧ holding.keyReq = false ∧ holding.dcnt = 0) ∧
    ((decAt 1).mode = .dec ∧ (decAt 1).keyReq = false ∧ (decAt 1).dcnt ≠ 0 ∧ (decAt 1).lenpol = false ∧
      (decAt 1).ksv = false) ∧
    (({ decAt 15 with lenpol := true } : State).dcnt ≠ 0 ∧ ({ decAt 15 with lenpol := true } : State).lenpol = true) ∧
    (({ holding with dcnt := 15 } : State).dcnt ≠ 0 ∧ ({ holding with dcnt := 15 } : State).lenpol = false ∧
      ({ holding with dcnt := 15 } : State).ksv = true) := by decide

theorem witness_StripZIsTheLongestPrefix : [0x41] <+: ([0x41, 0x00] : List Byte) ∧ ([0x41] : List Byte).getLast? ≠ some 0x00 := by
  decide

/-- Both policies of the decode output law: five bytes are no multiple of 16, sixteen are. -/
theorem witness_DecodeCallOutput :
    ({ fresh with lenpol := true } : State).mode = .idle ∧ ({ fresh with lenpol := true } : State).keyReq = false ∧
    ({ fresh with lenpol := true } : State).lenpol = true ∧ (List.replicate 5 (0x41 : Byte)).length % 16 ≠ 0 ∧
    (List.replicate 16 (0x41 : Byte)).length % 16 = 0 ∧ fresh.lenpol = false := by decide

theorem witness_LinesRoundTrip : ∀ l ∈ ([[], [0x48, 0x69], [0x00]] : List (List Byte)), (0x0A : Byte) ∉ l := by decide

/-- PortsOnlyGrow, NoCommandWritesHostRegisters and the frames: each names a command that answers a next state. -/
theorem witness_frames :
    (after State.ecnt (exec (.encByte 0x41) fresh)).isSome = true ∧ (after State.st (exec .stLoad fresh)).isSome = true ∧
    (after State.st (exec (.rkRead 10) fresh)).isSome = true ∧ (after State.st (exec .decBlock fresh)).isSome = true ∧
    (after State.pend (exec (.stAddrk 10) fresh)) = some 0x00000A24 ∧
    (after State.ecnt (exec .encEol (encAt 15))).isSome = true ∧
    (after State.dcnt (exec (.decByte 0x41) (decAt 15))).isSome = true ∧
    (after State.ecnt (exec .encEnd (encAt 15))).isSome = true ∧ (after State.dcnt (exec .decEnd (decAt 0))).isSome = true ∧
    (after State.mode (exec .encBegin fresh)) = some .enc ∧ (after State.mode (exec .decBegin fresh)) = some .dec ∧
    (after State.ksv (exec .keyClear fresh)) = some false ∧ (after State.mode (exec .keyFail encWaiting)) = some .idle := by
  decide

theorem witness_KeyCommandFrame : fresh.keyReq = false ∧ (after State.ksv (exec .keyExpand fresh)) = some true := by
  decide +kernel

theorem witness_CoreStepAlwaysCompletes :
    (latched 0x00000A24).Inv ∧ (latched 0x00000A24).busy = true ∧ coreTurn (latched 0x00000A24).host = true :=
  ⟨latched_inv, rfl, rfl⟩

/-- The second part of CoreStepAlwaysCompletes speaks of states without the invariant. -/
theorem witness_stops :
    ({ waiting with pend := 0x00000003 } : State).keyReq = true ∧ instrOf (opField 0x00000003) (argField 0x00000003) = none ∧
    10 < (11 : Byte).toNat ∧ instrOf (opField 0x00000B0B) (argField 0x00000B0B) = some (.rkRead 11) ∧
    instrOf (opField 0x0000FF24) (argField 0x0000FF24) = some (.stAddrk 255) := by decide

theorem witness_ResetValues : hostStep .reset failed = .next fresh ∧ fresh = State.reset := ⟨rfl, rfl⟩

theorem witness_BusyWindowDropsWrites :
    (latched 0).busy = true ∧ 0x00 ∈ [0x00, 0x08, 0x10, 0x14, 0x18, 0x1C, 0x30, 0x34, 0x38, 0x3C] ∧
    0x3C ∈ [0x00, 0x08, 0x10, 0x14, 0x18, 0x1C, 0x30, 0x34, 0x38, 0x3C] ∧
    0x2C ∈ [0x04, 0x0C, 0x20, 0x24, 0x28, 0x2C] := by decide

theorem witness_HostWriteStores :
    fresh.busy = false ∧ (0 : Fin 4) ≠ 3 ∧ 0x04 ∈ [0x04, 0x0C, 0x20, 0x24, 0x28, 0x2C] := by decide

theorem witness_HostReadsHaveNoSideEffect : fresh.busy = false := rfl

theorem witness_OnlyAlignedWindowAccessesRun :
    (1 ≠ 4 ∨ 0x10 % 4 ≠ 0) ∧ (4 ≠ 4 ∨ 0x3E % 4 ≠ 0) ∧ (64 % 4 = 0 ∧ 64 ≤ 64) ∧ (0x3C % 4 = 0 ∧ 0x3C < 64) := by decide

theorem witness_InvariantKeptByEveryStep : fresh.Inv ∧ step fresh = .next fresh := ⟨reset_inv, rfl⟩

end Sys2Proof.Tests
end

section
/-! What a command's own rule can answer, said once: the inversion lemmas from which the frames and the invariant of
the core are derived. -/

namespace Sys2Proof.Machine

/-! ### The decode direction as plain record updates (41_stream_adapter.md R191 to R196) -/

theorem tokenOf_eq (x : Byte) : tokenOf x = if x = newline then .le else .lb x := rfl

theorem openAfter_cons (x : Byte) (q : List Byte) (o : Bool) :
    openAfter (x :: q) o = openAfter q (decide (x ≠ newline)) := by
  cases q with
  | nil => by_cases hx : x = newline <;> simp_all [openAfter, newline]
  | cons y q => simp [openAfter, List.getLast?_cons_cons]

theorem deliverByte_eq (x : Byte) (s : State) :
    deliverByte x s = { s with lines := s.lines ++ [tokenOf x], lopen := decide (x ≠ newline) } := by
  by_cases hx : x = newline <;> simp [deliverByte, tokenOf_eq, hx]

theorem deliver_eq (p : List Byte) (s : State) :
    deliver p s = { s with lines := s.lines ++ p.map tokenOf, lopen := openAfter p s.lopen } := by
  induction p generalizing s with
  | nil => simp [deliver, openAfter]
  | cons x q ih => simp [deliver, ih, deliverByte_eq, openAfter_cons]

/-- The bytes DEC_BYTE and DEC_END deliver of the block held back (R194). -/
def heldBytes (s : State) : List Byte := if s.pvalid then blockBytes s.pbuf else []

/-- The bytes that are left to deliver at the end of the call (R196). -/
def lastBytes (s : State) : List Byte := if s.pvalid then stripZ (blockBytes s.pbuf) else []

/-- The tokens that the end of the call adds to LINES: the last bytes and, where they leave a line open, its end
(R196). -/
def lastTokens (s : State) : List Token :=
  (lastBytes s).map tokenOf ++ if openAfter (lastBytes s) s.lopen then [.le] else []

theorem deliverHeld_eq (s : State) : deliverHeld s = deliver (heldBytes s) s := by
  unfold deliverHeld heldBytes; split <;> rfl

theorem deliverLast_eq (s : State) : deliverLast s = deliver (lastBytes s) s := by
  unfold deliverLast lastBytes; split <;> rfl

theorem closeLine_eq (s : State) :
    closeLine s = { s with lines := s.lines ++ if s.lopen then [.le] else [] } := by
  unfold closeLine; split <;> simp

theorem holdBack_eq (p : Block) (s : State) : holdBack p s = { s with
    lines := s.lines ++ (heldBytes s).map tokenOf
    lopen := openAfter (heldBytes s) s.lopen
    pbuf := p
    pvalid := true } := by
  simp [holdBack, deliverHeld_eq, deliver_eq]

theorem finishDecode_eq (s : State) :
    finishDecode s = endSession { s with lines := s.lines ++ lastTokens s } := by
  simp [finishDecode, deliverLast_eq, deliver_eq, closeLine_eq, lastTokens, endSession, clearSession]

theorem heldBytes_length_le (s : State) : (heldBytes s).length ≤ 16 := by
  unfold heldBytes; split <;> simp

theorem lastBytes_length_le (s : State) : (lastBytes s).length ≤ 16 := by
  unfold lastBytes
  split
  · exact (stripZ_length_le _).trans (blockBytes_length _).le
  · simp

theorem lastTokens_length_le (s : State) : (lastTokens s).length ≤ 17 := by
  have := lastBytes_length_le s
  unfold lastTokens
  split <;> simp <;> omega

/-! ### Decoding the word of a command (30_encoding.md R110 to R115) -/

theorem instrOf_opcode_argByte (i : Instr) : instrOf (opcode i) (argByte i) = some i := by
  cases i <;> rfl

theorem argByte_eq_zero_of_class_none {i : Instr} (h : argClass i = .none) : argByte i = 0 := by
  cases i with
  | rkRead | stAddrk | encByte | decByte => cases h
  | _ => rfl

theorem opField_encode (i : Instr) : opField (encode i) = opcode i := BitVec.extractLsb'_append_eq_right

theorem argField_encode (i : Instr) : argField (encode i) = argByte i :=
  (BitVec.extractLsb'_append_eq_of_le le_rfl).trans BitVec.extractLsb'_append_eq_right

theorem rsvField_encode (i : Instr) : rsvField (encode i) = 0 :=
  (BitVec.extractLsb'_append_eq_of_le (by decide)).trans BitVec.extractLsb'_append_eq_left

/-- A command's word decodes to that command. -/
theorem decode_encode (i : Instr) : decode (encode i) = .instr i := by
  have hz : ¬ (argClass i = .none ∧ argByte i ≠ 0) := fun ⟨hc, ha⟩ => ha (argByte_eq_zero_of_class_none hc)
  simp only [decode, rsvField_encode, opField_encode, argField_encode, instrOf_opcode_argByte, ne_eq,
    not_true_eq_false, if_false, if_neg hz]

/-! ### What a command's own rule can answer (42_key_schedule.md R242's Execute, without the checks) -/

/-- The block that a command which needs nothing but ST, DIN and RK puts into ST (43_forward_cipher.md R280 to R285;
44_inverse_cipher.md R320 to R323). -/
def stageBlock (i : Instr) (s : State) : Option Block :=
  match i with
  | .encBlock => some (cipher (dinBlock s) s.rk)
  | .decBlock => some (invCipher (dinBlock s) s.rk)
  | .stLoad => some (dinBlock s)
  | .stSubbytes => some (subBytes s.st)
  | .stShiftrows => some (shiftRows s.st)
  | .stMixcolumns => some (mixColumns s.st)
  | .stAddrk r => (roundKeyAt s.rk r.toNat).map (addRoundKey s.st)
  | .stInvsubbytes => some (invSubBytes s.st)
  | .stInvshiftrows => some (invShiftRows s.st)
  | .stInvmixcolumns => some (invMixColumns s.st)
  | _ => none

/-- The byte a command pushes into the encode buffer (41_stream_adapter.md R183, R184). -/
def pushedByte (i : Instr) : Option Byte :=
  match i with
  | .encByte b => some b
  | .encEol => some newline
  | _ => none

/-- `RunsTo i s t`: the rule of command `i`, run in `s` without the checks of 30_encoding.md R118, can answer `t`. One
constructor per branch of the rules, KEY_EXPAND without a request. -/
inductive RunsTo : Instr → State → State → Prop
  | nop (s) : RunsTo .nop s s
  | clrErr (s) : RunsTo .clrErr s (clearError s)
  | abort (s) : RunsTo .abort s (clearKeyin (clearSchedule (clearSession (dropRequest s))))
  | keyExpand (s) : RunsTo .keyExpand s (loadSchedule s)
  | keyFailIdle {s} (hm : s.mode = .idle) : RunsTo .keyFail s (clearKeyin (dropRequest (raise .key s.pend s)))
  | keyFailSession {s} (hm : s.mode ≠ .idle) :
      RunsTo .keyFail s (endSession (clearKeyin (dropRequest (raise .key s.pend s))))
  | keyClear (s) : RunsTo .keyClear s (clearKeyin (clearSchedule s))
  | rkRead {s r k} (hk : roundKeyAt s.rk r.toNat = some k) : RunsTo (.rkRead r) s (showBlock k s)
  | stage {i s b} (hb : stageBlock i s = some b) (hk : usesSchedule i = true → s.ksv = true) :
      RunsTo i s (setStage b s)
  | request {i s} (hu : usesSchedule i = true) (hk : s.ksv = false) : RunsTo i s (requestKey (encode i) s)
  | encBegin (s) : RunsTo .encBegin s (beginSession .enc s)
  | buffer {i s e} (he : pushedByte i = some e) (hn : s.ecnt ≠ 15) : RunsTo i s (bufferElement e s)
  | emit {i s e} (he : pushedByte i = some e) (hn : s.ecnt = 15) (hk : s.ksv = true) : RunsTo i s (emitFull e s)
  | encEndEmpty {s} (hn : s.ecnt = 0) : RunsTo .encEnd s (endSession s)
  | encEndTail {s} (hn : s.ecnt ≠ 0) (hk : s.ksv = true) :
      RunsTo .encEnd s (endSession (appendSink (cipher s.ebuf s.rk) s))
  | decBegin (s) : RunsTo .decBegin s (beginSession .dec s)
  | decByteBuffer {s c} (hn : s.dcnt ≠ 15) : RunsTo (.decByte c) s (bufferByte c s)
  | decByteFull {s c} (hn : s.dcnt = 15) (hk : s.ksv = true) : RunsTo (.decByte c) s (decryptFull c s)
  | decEndEmpty {s} (hn : s.dcnt = 0) : RunsTo .decEnd s (finishDecode s)
  | decEndReject {s} (hn : s.dcnt ≠ 0) (hl : s.lenpol = true) :
      RunsTo .decEnd s (endSession (raise .length (s.dcnt.setWidth 32) s))
  | decEndTail {s} (hn : s.dcnt ≠ 0) (hl : s.lenpol = false) (hk : s.ksv = true) :
      RunsTo .decEnd s (finishDecode (holdBack (invCipher s.dbuf s.rk) s))

/-- A command that needs the schedule answers what it runs to with one, or waits for the key (R240). -/
theorem runsTo_of_needSchedule {i : Instr} {s t : State} {body : Result} (hu : usesSchedule i = true)
    (h : needSchedule i s body = .next t) (hbody : s.ksv = true → body = .next t → RunsTo i s t) : RunsTo i s t := by
  obtain ⟨hk, hb⟩ | ⟨hk, rfl⟩ := needSchedule_next h
  · exact hbody hk hb
  · exact .request hu hk

theorem runsTo_of_push {i : Instr} {e : Byte} {s t : State} (he : pushedByte i = some e) (hu : usesSchedule i = true)
    (h : push i e s = .next t) : RunsTo i s t := by
  obtain ⟨hn, rfl⟩ | ⟨hn, hk, rfl⟩ | ⟨-, hk, rfl⟩ := push_next h
  · exact .buffer he hn
  · exact .emit he hn hk
  · exact .request hu hk

theorem runsTo_of_runKeyFail {s t : State} (h : runKeyFail s = .next t) : RunsTo .keyFail s t := by
  cases h
  change RunsTo .keyFail s (if s.mode = .idle then _ else _)
  split
  next hm => exact .keyFailIdle hm
  next hm => exact .keyFailSession hm

theorem runsTo_of_runRkRead {r : Byte} {s t : State} (h : runRkRead r s = .next t) : RunsTo (.rkRead r) s t := by
  unfold runRkRead at h
  split at h
  next k hk => cases h; exact .rkRead hk
  next => cases h

theorem runsTo_of_runStAddrk {r : Byte} {s t : State} (h : runStAddrk r s = .next t) : RunsTo (.stAddrk r) s t := by
  refine runsTo_of_needSchedule rfl h fun hk hb => ?_
  split at hb
  next k hr => cases hb; exact .stage (by simp [stageBlock, hr]) fun _ => hk
  next => cases hb

theorem runsTo_of_runEncEnd {s t : State} (h : runEncEnd s = .next t) : RunsTo .encEnd s t := by
  unfold runEncEnd at h
  split at h
  next hn => cases h; exact .encEndEmpty hn
  next hn => exact runsTo_of_needSchedule rfl h fun hk hb => by cases hb; exact .encEndTail hn hk

theorem runsTo_of_runDecByte {c : Byte} {s t : State} (h : runDecByte c s = .next t) : RunsTo (.decByte c) s t := by
  unfold runDecByte at h
  split at h
  next hn => exact runsTo_of_needSchedule rfl h fun hk hb => by cases hb; exact .decByteFull hn hk
  next hn => cases h; exact .decByteBuffer hn

theorem runsTo_of_runDecEnd {s t : State} (h : runDecEnd s = .next t) : RunsTo .decEnd s t := by
  unfold runDecEnd at h
  split at h
  next hn => cases h; exact .decEndEmpty hn
  next hn =>
    split at h
    next hl => cases h; exact .decEndReject hn hl
    next hl =>
      exact runsTo_of_needSchedule rfl h fun hk hb => by cases hb; exact .decEndTail hn (by simpa using hl) hk

/-- Everything the rule of a command can answer. -/
theorem runsTo_of_resume {i : Instr} {s t : State} (h : resume i s = .next t) : RunsTo i s t := by
  cases i with
  | nop => cases h; exact .nop s
  | clrErr => cases h; exact .clrErr s
  | abort => cases h; exact .abort s
  | keyExpand => cases h; exact .keyExpand s
  | keyFail => exact runsTo_of_runKeyFail h
  | keyClear => cases h; exact .keyClear s
  | rkRead r => exact runsTo_of_runRkRead h
  | encBlock => exact runsTo_of_needSchedule rfl h fun hk hb => by cases hb; exact .stage rfl fun _ => hk
  | decBlock => exact runsTo_of_needSchedule rfl h fun hk hb => by cases hb; exact .stage rfl fun _ => hk
  | stAddrk r => exact runsTo_of_runStAddrk h
  | stLoad | stSubbytes | stShiftrows | stMixcolumns | stInvsubbytes | stInvshiftrows | stInvmixcolumns =>
    cases h; exact .stage rfl nofun
  | encBegin => cases h; exact .encBegin s
  | encByte b => exact runsTo_of_push rfl rfl h
  | encEol => exact runsTo_of_push rfl rfl h
  | encEnd => exact runsTo_of_runEncEnd h
  | decBegin => cases h; exact .decBegin s
  | decByte c => exact runsTo_of_runDecByte h
  | decEnd => exact runsTo_of_runDecEnd h

/-! ### What `exec` can answer (30_encoding.md R118) -/

/-- Every command but KEY_EXPAND is its rule after the checks. -/
theorem exec_eq_checked_resume {i : Instr} (hi : i ≠ .keyExpand) (s : State) :
    exec i s = checked i s (resume i s) := by
  cases i with
  | keyExpand => exact absurd rfl hi
  | _ => rfl

/-- `ExecTo i s t`: command `i`, run in `s` with the checks, can answer `t`: an error where a check fails, else what its
rule answers; and KEY_EXPAND that answers a request, what the waiting command `j` does once it has its schedule. -/
inductive ExecTo : Instr → State → State → Prop
  | illegal {i s} (hl : legal i s.mode s.keyReq = false) : ExecTo i s (raise .seq (encode i) s)
  | badOperand {i s} (ho : operandOk i = false) : ExecTo i s (raise .operand (encode i) s)
  | rule {i s t} (hl : legal i s.mode s.keyReq = true) (ho : operandOk i = true)
      (hq : i = .keyExpand → s.keyReq = false) (h : RunsTo i s t) : ExecTo i s t
  | resumed {s t j} (hq : s.keyReq = true) (hj : instrOf (opField s.pend) (argField s.pend) = some j)
      (h : RunsTo j (loadSchedule (dropRequest s)) t) : ExecTo .keyExpand s t

theorem execTo_of_runKeyExpand {s t : State} (hl : legal .keyExpand s.mode s.keyReq = true)
    (h : runKeyExpand s = .next t) : ExecTo .keyExpand s t := by
  unfold runKeyExpand at h
  split at h
  next hq =>
    unfold resumeWord at h
    split at h
    next j hj => exact .resumed hq hj (runsTo_of_resume h)
    next => cases h
  next hq => cases h; exact .rule hl rfl (fun _ => by simpa using hq) (.keyExpand s)

/-- Everything a command can answer. -/
theorem execTo_of_exec {i : Instr} {s t : State} (h : exec i s = .next t) : ExecTo i s t := by
  by_cases hi : i = .keyExpand
  · subst hi
    obtain ⟨hl, -, h⟩ | ⟨hl, rfl⟩ | ⟨ho, rfl⟩ := checked_next h
    · exact execTo_of_runKeyExpand hl h
    · exact .illegal hl
    · exact .badOperand ho
  · rw [exec_eq_checked_resume hi] at h
    obtain ⟨hl, ho, h⟩ | ⟨hl, rfl⟩ | ⟨ho, rfl⟩ := checked_next h
    · exact .rule hl ho (absurd · hi) (runsTo_of_resume h)
    · exact .illegal hl
    · exact .badOperand ho

end Sys2Proof.Machine
end

section
/-! What no command writes, what a command appends to the ports, and when the schedule changes. -/

namespace Sys2Proof.Machine

/-! ### The registers only the host writes (10_state.md R33, R37) -/

/-- Nothing that belongs to the host or to the outside world differs. -/
def SameHostSide (s t : State) : Prop :=
  t.lenpol = s.lenpol ∧ t.din = s.din ∧ t.busy = s.busy ∧ t.cmdlatch = s.cmdlatch ∧ t.host = s.host ∧
    t.reads = s.reads ∧ t.draws = s.draws

theorem RunsTo.sameHostSide {i : Instr} {s t : State} (h : RunsTo i s t) : SameHostSide s t := by
  cases h with
  | decByteFull => simp [SameHostSide, decryptFull, holdBack_eq]
  | decEndEmpty => simp [SameHostSide, finishDecode_eq]
  | decEndTail => simp [SameHostSide, finishDecode_eq, holdBack_eq]
  | _ => exact ⟨rfl, rfl, rfl, rfl, rfl, rfl, rfl⟩

theorem ExecTo.sameHostSide {i : Instr} {s t : State} (h : ExecTo i s t) : SameHostSide s t := by
  cases h with
  | illegal | badOperand => exact ⟨rfl, rfl, rfl, rfl, rfl, rfl, rfl⟩
  | rule _ _ _ h => exact h.sameHostSide
  | resumed _ _ h => exact h.sameHostSide

/-! ### The output ports (10_state.md R56, R57; 70_reset_and_hazards.md R421) -/

/-- `t` has the ports of `s` with nothing or one block appended to SINK and at most 33 tokens appended to LINES. -/
def AppendsToPorts (s t : State) : Prop :=
  ∃ c l, t.sink = s.sink ++ c ∧ t.lines = s.lines ++ l ∧ (c.length = 0 ∨ c.length = 16) ∧ l.length ≤ 33

theorem AppendsToPorts.of_eq {s t : State} (hs : t.sink = s.sink) (hl : t.lines = s.lines) : AppendsToPorts s t :=
  ⟨[], [], by simp [hs], by simp [hl], .inl rfl, by simp⟩

theorem AppendsToPorts.of_block {s t : State} (b : Block) (hs : t.sink = s.sink ++ blockBytes b)
    (hl : t.lines = s.lines) : AppendsToPorts s t :=
  ⟨blockBytes b, [], hs, by simp [hl], .inr (blockBytes_length b), by simp⟩

theorem AppendsToPorts.of_tokens {s t : State} (l : List Token) (hs : t.sink = s.sink) (hl : t.lines = s.lines ++ l)
    (hlen : l.length ≤ 33) : AppendsToPorts s t :=
  ⟨[], l, by simp [hs], hl, .inl rfl, hlen⟩

/-- The longest answer is DEC_END's with a partial block: the block held back, the last one and the end of its line. -/
theorem RunsTo.appendsToPorts {i : Instr} {s t : State} (h : RunsTo i s t) : AppendsToPorts s t := by
  have hheld := heldBytes_length_le s
  cases h with
  | emit => exact .of_block _ rfl rfl
  | encEndTail => exact .of_block _ rfl rfl
  | decByteFull =>
    refine .of_tokens ((heldBytes s).map tokenOf) ?_ ?_ ?_
    · simp [decryptFull, holdBack_eq]
    · simp [decryptFull, holdBack_eq]
    · rw [List.length_map]; omega
  | decEndEmpty =>
    have hlast := lastTokens_length_le s
    refine .of_tokens (lastTokens s) ?_ ?_ (by omega) <;> simp [finishDecode_eq]
  | decEndTail =>
    generalize hu : holdBack (invCipher s.dbuf s.rk) s = u
    have hlast := lastTokens_length_le u
    rw [holdBack_eq] at hu
    refine .of_tokens ((heldBytes s).map tokenOf ++ lastTokens u) ?_ ?_ ?_
    · simp [finishDecode_eq, ← hu]
    · simp [finishDecode_eq, ← hu]
    · rw [List.length_append, List.length_map]; omega
  | _ => exact .of_eq rfl rfl

theorem ExecTo.appendsToPorts {i : Instr} {s t : State} (h : ExecTo i s t) : AppendsToPorts s t := by
  cases h with
  | illegal | badOperand => exact .of_eq rfl rfl
  | rule _ _ _ h => exact h.appendsToPorts
  | resumed _ _ h => exact h.appendsToPorts

/-! ### The schedule (10_state.md R41, R42) -/

/-- The commands of R42's list: no other one clears the schedule. -/
def MayClearSchedule (i : Instr) (s : State) : Prop :=
  i = .keyClear ∨ i = .abort ∨ (i = .keyFail ∧ s.mode ≠ .idle) ∨ i = .encBegin ∨ i = .encEnd ∨ i = .decBegin ∨
    i = .decEnd

/-- The answers of R42's list that have cleared the schedule: ENC_END and DEC_END do it when they do not wait. -/
def MustClearSchedule (i : Instr) (s t : State) : Prop :=
  i = .keyClear ∨ i = .abort ∨ (i = .keyFail ∧ s.mode ≠ .idle) ∨ i = .encBegin ∨ i = .decBegin ∨
    ((i = .encEnd ∨ i = .decEnd) ∧ t.keyReq = false)

/-- Whatever a rule does to the schedule: it keeps it, clears it, or loads it (KEY_EXPAND). -/
theorem RunsTo.schedule_cases {i : Instr} {s t : State} (h : RunsTo i s t) :
    (t.ksv = s.ksv ∧ t.rk = s.rk) ∨
    (t.ksv = false ∧ t.rk = zeroKeys ∧ MayClearSchedule i s) ∨
    (i = .keyExpand ∧ t.ksv = true) := by
  cases h with
  | keyExpand => exact .inr (.inr ⟨rfl, rfl⟩)
  | keyFailSession hm => exact .inr (.inl ⟨rfl, rfl, by simp [MayClearSchedule, hm]⟩)
  | abort | keyClear | encBegin | encEndEmpty | encEndTail | decBegin | decEndEmpty | decEndReject | decEndTail =>
    exact .inr (.inl ⟨rfl, rfl, by simp [MayClearSchedule]⟩)
  | decByteFull => exact .inl (by simp [decryptFull, holdBack_eq])
  | _ => exact .inl ⟨rfl, rfl⟩

/-- An absent schedule stays all zero, and an absent schedule is what clearing leaves (R42). -/
theorem RunsTo.rk_eq_zeroKeys {i : Instr} {s t : State} (h : RunsTo i s t) (hs : s.ksv = false → s.rk = zeroKeys)
    (ht : t.ksv = false) : t.rk = zeroKeys := by
  obtain ⟨hksv, hrk⟩ | ⟨-, hrk, -⟩ | ⟨-, hksv⟩ := h.schedule_cases
  · rw [hrk]; exact hs (hksv ▸ ht)
  · exact hrk
  · simp [ht] at hksv

theorem ExecTo.rk_eq_zeroKeys {i : Instr} {s t : State} (h : ExecTo i s t) (hs : s.ksv = false → s.rk = zeroKeys)
    (ht : t.ksv = false) : t.rk = zeroKeys := by
  cases h with
  | illegal | badOperand => exact hs ht
  | rule _ _ _ h => exact h.rk_eq_zeroKeys hs ht
  | resumed _ _ h => exact h.rk_eq_zeroKeys nofun ht

/-- The commands that end or begin a call, or destroy the key, leave no schedule behind (R42). -/
theorem RunsTo.schedule_cleared {i : Instr} {s t : State} (h : RunsTo i s t)
    (hi : MustClearSchedule i s t) : t.ksv = false ∧ t.rk = zeroKeys := by
  cases h with
  | abort | keyClear | keyFailSession | encBegin | encEndEmpty | encEndTail | decBegin | decEndEmpty | decEndReject
  | decEndTail => exact ⟨rfl, rfl⟩
  | keyFailIdle hm => simp [MustClearSchedule, hm] at hi
  | stage hb => rcases hi with rfl | rfl | ⟨rfl, -⟩ | rfl | rfl | ⟨rfl | rfl, -⟩ <;> cases hb
  | buffer he | emit he => rcases hi with rfl | rfl | ⟨rfl, -⟩ | rfl | rfl | ⟨rfl | rfl, -⟩ <;> cases he
  | request hu =>
    obtain rfl | rfl | ⟨rfl, -⟩ | rfl | rfl | ⟨-, hq⟩ := hi
    case inr.inr.inr.inr.inr => cases hq
    all_goals cases hu
  | _ => simp [MustClearSchedule] at hi

/-- Only the commands that name a round key can have a bad operand (30_encoding.md R117). -/
theorem eq_rkRead_or_stAddrk_of_badOperand {i : Instr} (h : operandOk i = false) :
    ∃ r, i = .rkRead r ∨ i = .stAddrk r := by
  cases i with
  | rkRead r => exact ⟨r, .inl rfl⟩
  | stAddrk r => exact ⟨r, .inr rfl⟩
  | _ => cases h

theorem ExecTo.schedule_kept_or_cleared {i : Instr} {s t : State} (h : ExecTo i s t) (hi : i ≠ .keyExpand) :
    (t.ksv = s.ksv ∧ t.rk = s.rk) ∨
    (t.ksv = false ∧ t.rk = zeroKeys ∧ MayClearSchedule i s) := by
  cases h with
  | illegal | badOperand => exact .inl ⟨rfl, rfl⟩
  | rule _ _ _ h =>
    obtain hkept | hcleared | ⟨he, -⟩ := h.schedule_cases
    · exact .inl hkept
    · exact .inr hcleared
    · exact absurd he hi
  | resumed => exact absurd rfl hi

theorem ExecTo.schedule_cleared {i : Instr} {s t : State} (h : ExecTo i s t)
    (hl : legal i s.mode s.keyReq = true)
    (hi : MustClearSchedule i s t) : t.ksv = false ∧ t.rk = zeroKeys := by
  cases h with
  | illegal hl' => simp [hl] at hl'
  | badOperand ho => obtain ⟨r, rfl | rfl⟩ := eq_rkRead_or_stAddrk_of_badOperand ho <;> simp [MustClearSchedule] at hi
  | rule _ _ _ h => exact h.schedule_cleared hi
  | resumed => simp [MustClearSchedule] at hi

/-- Settles O55: no rule of a command writes them. -/
theorem noCommandWritesHostRegisters : Obligations.NoCommandWritesHostRegisters := by
  unfold Obligations.NoCommandWritesHostRegisters
  exact fun _ _ _ h => (execTo_of_exec h).sameHostSide

/-- Settles O44: a command emits at most one block and delivers at most two, with one LE to close the line. -/
theorem portsOnlyGrow : Obligations.PortsOnlyGrow := by
  unfold Obligations.PortsOnlyGrow
  intro i s t h
  obtain ⟨c, l, hsink, hlines, hc, hl⟩ := (execTo_of_exec h).appendsToPorts
  rw [hsink, hlines]
  exact ⟨⟨c, rfl⟩, ⟨l, rfl⟩, by simpa using hc, by simpa using hl⟩

/-- Settles O19: by what each rule does to the schedule. -/
theorem onlyKeyExpandValidatesSchedule : Obligations.OnlyKeyExpandValidatesSchedule := by
  unfold Obligations.OnlyKeyExpandValidatesSchedule
  refine ⟨fun i s t h hi => ?_, fun i s t hl h hi => ?_, fun s => ⟨rfl, rfl⟩, fun i s t hs h ht => ?_⟩
  · exact (execTo_of_exec h).schedule_kept_or_cleared hi
  · exact (execTo_of_exec h).schedule_cleared ((legal_iff_place i s).mpr hl) hi
  · exact (execTo_of_exec h).rk_eq_zeroKeys hs ht

end Sys2Proof.Machine
end

section
/-! The invariant of the core (10_state.md R62): kept by every named update, hence by every rule, command and step. -/

namespace Sys2Proof.Machine

namespace State.Inv

variable {s : State}

theorem reset : State.reset.Inv where
  idle := fun _ => ⟨rfl, rfl, rfl, rfl, rfl, rfl, rfl⟩
  enc := nofun
  dec := nofun
  request := nofun
  pend := by decide
  errinfo := fun _ => rfl
  schedule := fun _ => rfl
  ebuf := fun i _ => blockGet_zero i
  dbuf := fun i _ => blockGet_zero i
  held := nofun
  waiting := nofun
  latch := fun _ => rfl
  content := nofun

/-- A request stands only while PEND names it (R43). -/
theorem pend_eq_zero (h : s.Inv) (hq : s.keyReq = false) : s.pend = 0 := by
  by_contra hp
  simp [h.pend.mp hp] at hq

/-! #### The updates of Machine/Ops.lean -/

theorem raise (h : s.Inv) (e : ErrCode) (info : Word) (he : e ≠ .none) : (raise e info s).Inv :=
  { h with
    errinfo := fun hnone => by
      simp only [raise_err, raise_errinfo] at *
      split at hnone
      · exact absurd hnone he
      · contradiction }

theorem clearError (h : s.Inv) : (clearError s).Inv := { h with errinfo := fun _ => rfl }

theorem clearKeyin (h : s.Inv) : (clearKeyin s).Inv := { h with }

theorem clearSchedule (h : s.Inv) (hp : s.pvalid = false) : (clearSchedule s).Inv :=
  { h with
    request := fun _ => rfl
    schedule := fun _ => rfl
    held := fun hv => by simp [hp] at hv }

/-- Clearing the session takes the mode away in which a request was made, so it needs that there is none. -/
theorem clearSession (h : s.Inv) (hq : s.keyReq = false) : (clearSession s).Inv :=
  { h with
    idle := fun _ => ⟨rfl, rfl, rfl, rfl, rfl, rfl, rfl⟩
    enc := nofun
    dec := nofun
    ebuf := fun i _ => blockGet_zero i
    dbuf := fun i _ => blockGet_zero i
    held := nofun
    waiting := fun hw => by simp [hq] at hw }

theorem endSession (h : s.Inv) (hq : s.keyReq = false) : (endSession s).Inv :=
  (h.clearSession hq).clearSchedule rfl

theorem beginSession (h : s.Inv) (hq : s.keyReq = false) (m : Mode) : (beginSession m s).Inv :=
  { h.endSession hq with
    idle := fun _ => ⟨rfl, rfl, rfl, rfl, rfl, rfl, rfl⟩
    enc := fun _ => ⟨rfl, rfl, rfl⟩
    dec := fun _ => rfl
    held := nofun
    waiting := fun hw => by simp [hq] at hw }

theorem dropRequest (h : s.Inv) : (dropRequest s).Inv :=
  { h with
    request := nofun
    pend := by simp
    waiting := nofun }

theorem loadSchedule (h : s.Inv) (hq : s.keyReq = false) : (loadSchedule s).Inv :=
  { h with
    request := fun hw => by simp [hq] at hw
    schedule := nofun
    held := fun hv => ⟨(h.held hv).1, rfl⟩ }

theorem setStage (h : s.Inv) (b : Block) : (setStage b s).Inv := { h with }

theorem showBlock (h : s.Inv) (b : Block) : (showBlock b s).Inv := { h with }

theorem takeCommand (h : s.Inv) : (takeCommand s).Inv := { h with latch := fun _ => rfl }

theorem latchCommand (h : s.Inv) (w : Word) : (latchCommand w s).Inv := { h with latch := nofun }

theorem resetCore (h : s.Inv) : (resetCore s).Inv := { reset with content := h.content }

end State.Inv

/-- The word 0 is NOP, which waits for nothing. -/
theorem encode_ne_zero {i : Instr} (hu : usesSchedule i = true) : encode i ≠ 0 := fun h0 => by
  have hi : Decoded.instr i = .instr .nop := by rw [← decode_encode i, h0]; rfl
  cases hi
  cases hu

/-- A command that passed its checks waits under its own word (42_key_schedule.md R240, R242). -/
theorem State.Inv.requestKey {s : State} (h : s.Inv) {i : Instr} (hu : usesSchedule i = true) (hk : s.ksv = false)
    (hl : legal i s.mode false = true) (ho : operandOk i = true) : (requestKey (encode i) s).Inv :=
  { h with
    request := fun _ => hk
    pend := iff_of_true (encode_ne_zero hu) rfl
    waiting := fun _ => by simp [waitsForKey, decode_encode, hl, ho, hu] }

/-- What waits for a key is a command that passed its checks and uses the schedule. -/
theorem waitsForKey_iff {w : Word} {m : Mode} : waitsForKey w m = true ↔
    ∃ i, decode w = .instr i ∧ legal i m false = true ∧ operandOk i = true ∧ usesSchedule i = true := by
  unfold waitsForKey
  cases decode w <;> simp [and_assoc]

/-! #### The stream adapter's buffers (10_state.md R45 to R48) -/

theorem toNat_add_one_of_ne {n : BitVec 4} (hn : n ≠ 15) : (n + 1).toNat = n.toNat + 1 := by
  bv_omega

/-- Filling the first free place keeps the bytes from the count on zero. -/
theorem blockGet_set_count {b : Block} {n : BitVec 4} (e : Byte) (hn : n ≠ 15)
    (hz : ∀ i : Fin 16, n.toNat ≤ i.val → blockGet b i = 0) (i : Fin 16) (hi : (n + 1).toNat ≤ i.val) :
    blockGet (blockSet b n.toFin e) i = 0 := by
  rw [toNat_add_one_of_ne hn] at hi
  have hne : i ≠ n.toFin := fun heq => by simp [heq] at hi
  rw [blockGet_set_ne b e hne]
  exact hz i (by omega)

/-- The splitter turns every 0x0A into the end of a line (41_stream_adapter.md R191). -/
theorem lb_newline_notMem_map_tokenOf (p : List Byte) : Token.lb newline ∉ p.map tokenOf := by
  intro hmem
  obtain ⟨x, -, hx⟩ := List.mem_map.mp hmem
  rw [tokenOf_eq] at hx
  split at hx
  · cases hx
  next hne => exact hne (Token.lb.inj hx)

theorem lb_newline_notMem_lastTokens (s : State) : Token.lb newline ∉ lastTokens s := by
  have hmap := lb_newline_notMem_map_tokenOf (lastBytes s)
  unfold lastTokens
  split <;> simpa using hmap

namespace State.Inv

variable {s : State}

theorem bufferElement (h : s.Inv) (e : Byte) (hm : s.mode = .enc) (hn : s.ecnt ≠ 15) : (bufferElement e s).Inv :=
  { h with
    idle := fun hi => by cases hm.symm.trans hi
    dec := fun hd => by cases hm.symm.trans hd
    ebuf := blockGet_set_count e hn h.ebuf }

theorem appendSink (h : s.Inv) (b : Block) : (appendSink b s).Inv := { h with }

theorem emitFull (h : s.Inv) (e : Byte) (hm : s.mode = .enc) : (emitFull e s).Inv :=
  { h with
    idle := fun hi => by cases hm.symm.trans hi
    dec := fun _ => rfl
    ebuf := fun i _ => blockGet_zero i }

theorem bufferByte (h : s.Inv) (c : Byte) (hm : s.mode = .dec) (hn : s.dcnt ≠ 15) : (bufferByte c s).Inv :=
  { h with
    idle := fun hi => by cases hm.symm.trans hi
    enc := fun he => by cases hm.symm.trans he
    dbuf := blockGet_set_count c hn h.dbuf }

/-- LINES may take any tokens that hold no content byte 0x0A. -/
theorem appendLines (h : s.Inv) {l : List Token} (hl : Token.lb newline ∉ l) :
    State.Inv { s with lines := s.lines ++ l } :=
  { h with
    content := fun x hx hnl => by
      subst hnl
      exact (List.mem_append.mp hx).elim (fun hs => h.content _ hs rfl) hl }

theorem finishDecode (h : s.Inv) (hq : s.keyReq = false) : (finishDecode s).Inv := by
  rw [finishDecode_eq]
  exact (h.appendLines (lb_newline_notMem_lastTokens s)).endSession hq

theorem holdBack (h : s.Inv) (p : Block) (hm : s.mode = .dec) (hk : s.ksv = true) : (holdBack p s).Inv := by
  rw [holdBack_eq]
  exact { h.appendLines (lb_newline_notMem_map_tokenOf (heldBytes s)) with
    idle := fun hi => by cases hm.symm.trans hi
    enc := fun he => by cases hm.symm.trans he
    held := fun _ => ⟨hm, hk⟩ }

theorem decryptFull (h : s.Inv) (c : Byte) (hm : s.mode = .dec) (hk : s.ksv = true) : (decryptFull c s).Inv :=
  have hmode : (Machine.holdBack (invCipher (blockSet s.dbuf 15 c) s.rk) s).mode = .dec := by simp [holdBack_eq, hm]
  { h.holdBack (invCipher (blockSet s.dbuf 15 c) s.rk) hm hk with
    idle := fun hi => by cases hmode.symm.trans hi
    enc := fun he => by cases hmode.symm.trans he
    dbuf := fun i _ => blockGet_zero i }

end State.Inv

/-! #### Commands and steps -/

/-- The rows of the legality table that say yes in one mode only (30_encoding.md R116). -/
theorem noRequest_and_mode_of_legal {q : Bool} {m m' : Mode} (hl : (!q && decide (m = m')) = true) :
    q = false ∧ m = m' := by
  simpa using hl

/-- A command that uses the schedule is legal only where no other waits for it (30_encoding.md R116). -/
theorem keyReq_eq_false_of_usesSchedule {i : Instr} {m : Mode} {q : Bool} (hu : usesSchedule i = true)
    (hl : legal i m q = true) : q = false := by
  cases i <;> simp_all [legal, usesSchedule]

theorem mode_eq_enc_of_pushedByte {i : Instr} {e : Byte} {m : Mode} {q : Bool} (he : pushedByte i = some e)
    (hl : legal i m q = true) : m = .enc := by
  cases i <;> simp_all [legal, pushedByte]

/-- Every rule keeps the invariant where its command passes the checks. -/
theorem RunsTo.inv {i : Instr} {s t : State} (hr : RunsTo i s t) (h : s.Inv)
    (hl : legal i s.mode s.keyReq = true) (ho : operandOk i = true) (hq : i = .keyExpand → s.keyReq = false) :
    t.Inv := by
  cases hr with
  | nop => exact h
  | clrErr => exact h.clearError
  | abort => exact ((h.dropRequest.clearSession rfl).clearSchedule rfl).clearKeyin
  | keyExpand => exact h.loadSchedule (hq rfl)
  | keyFailIdle => exact (h.raise .key _ nofun).dropRequest.clearKeyin
  | keyFailSession => exact (h.raise .key _ nofun).dropRequest.clearKeyin.endSession rfl
  | keyClear =>
    obtain ⟨-, hmode⟩ := noRequest_and_mode_of_legal hl
    obtain ⟨-, -, hpvalid, -⟩ := h.idle hmode
    exact (h.clearSchedule hpvalid).clearKeyin
  | rkRead => exact h.showBlock _
  | stage => exact h.setStage _
  | request hu hk =>
    rw [keyReq_eq_false_of_usesSchedule hu hl] at hl
    exact h.requestKey hu hk hl ho
  | encBegin | decBegin =>
    obtain ⟨hreq, -⟩ := noRequest_and_mode_of_legal hl
    exact h.beginSession hreq _
  | buffer he hn => exact h.bufferElement _ (mode_eq_enc_of_pushedByte he hl) hn
  | emit he => exact h.emitFull _ (mode_eq_enc_of_pushedByte he hl)
  | encEndEmpty =>
    obtain ⟨hreq, -⟩ := noRequest_and_mode_of_legal hl
    exact h.endSession hreq
  | encEndTail =>
    obtain ⟨hreq, -⟩ := noRequest_and_mode_of_legal hl
    exact (h.appendSink _).endSession hreq
  | decByteBuffer hn =>
    obtain ⟨-, hmode⟩ := noRequest_and_mode_of_legal hl
    exact h.bufferByte _ hmode hn
  | decByteFull hn hk =>
    obtain ⟨-, hmode⟩ := noRequest_and_mode_of_legal hl
    exact h.decryptFull _ hmode hk
  | decEndEmpty =>
    obtain ⟨hreq, -⟩ := noRequest_and_mode_of_legal hl
    exact h.finishDecode hreq
  | decEndReject =>
    obtain ⟨hreq, -⟩ := noRequest_and_mode_of_legal hl
    exact (h.raise .length _ nofun).endSession hreq
  | decEndTail hn _ hk =>
    obtain ⟨hreq, hmode⟩ := noRequest_and_mode_of_legal hl
    exact (h.holdBack _ hmode hk).finishDecode (by simp [holdBack_eq, hreq])

theorem ExecTo.inv {i : Instr} {s t : State} (he : ExecTo i s t) (h : s.Inv) : t.Inv := by
  cases he with
  | illegal => exact h.raise .seq _ nofun
  | badOperand => exact h.raise .operand _ nofun
  | rule hl ho hq hr => exact hr.inv h hl ho hq
  | resumed hreq hj hr =>
    obtain ⟨j, hdecode, hl, ho, -⟩ := waitsForKey_iff.mp (h.waiting hreq)
    cases hj.symm.trans (instrOf_of_decode hdecode)
    exact hr.inv (h.dropRequest.loadSchedule rfl) hl ho fun _ => rfl

theorem inv_of_coreStep {s t : State} (h : s.Inv) (hs : coreStep s = .next t) : t.Inv := by
  obtain ⟨why, -, rfl⟩ | ⟨i, -, he⟩ := coreStep_next hs
  · exact h.takeCommand.raise .notimpl _ nofun
  · exact (execTo_of_exec he).inv h.takeCommand

theorem State.Inv.storeReg {s : State} (h : s.Inv) (r : Reg) (v : Word) : (storeReg r v s).Inv := by
  cases r with
  | cmd => exact h.latchCommand v
  | status | errinfo | dout => exact h
  | ctrl | din | keyin => exact { h with }

theorem State.Inv.hostWrite {s : State} (h : s.Inv) (r : Reg) (v : Word) : (hostWrite r v s).Inv := by
  unfold Machine.hostWrite
  split
  · exact h.raise .busy _ nofun
  · exact h.storeReg r v

theorem State.Inv.hostRead {s : State} (h : s.Inv) (r : Reg) : (hostRead r s).Inv := { h with }

theorem inv_of_hostStep {a : HostAction} {s t : State} (h : s.Inv) (hs : hostStep a s = .next t) : t.Inv := by
  cases a with
  | write =>
    obtain ⟨r, -, rfl⟩ := access_next hs
    exact h.hostWrite r _
  | read =>
    obtain ⟨r, -, rfl⟩ := access_next hs
    exact h.hostRead r
  | poll => cases hs; exact h
  | reset => cases hs; exact h.resetCore
  | takeSink n => cases hs; exact { h with }

theorem inv_of_outsideStep {s t : State} (h : s.Inv) (hs : outsideStep s = .next t) : t.Inv := by
  obtain ⟨-, rfl⟩ | ⟨a, rest, -, ha⟩ := outsideStep_next hs
  · exact h
  · exact inv_of_hostStep (s := { s with host := rest }) { h with } ha

theorem inv_of_step {s t : State} (h : s.Inv) (hs : step s = .next t) : t.Inv := by
  obtain ⟨-, -, hstep⟩ | ⟨-, hstep⟩ := step_cases s
  · exact inv_of_coreStep h (hstep ▸ hs)
  · exact inv_of_outsideStep h (hstep ▸ hs)

/-- Settles O53: every buffer and every count is zero. -/
theorem invariantAtReset : Obligations.InvariantAtReset := State.Inv.reset

/-- Settles O54: each named update keeps the invariant, so each rule does, and so each step. -/
theorem invariantKeptByEveryStep : Obligations.InvariantKeptByEveryStep := by
  unfold Obligations.InvariantKeptByEveryStep
  exact fun _ _ h hs => inv_of_step h hs

end Sys2Proof.Machine
end

section
/-! STATUS field by field (10_state.md R34). -/

namespace Sys2Proof.Machine

theorem getLsbD_fieldAt {w : Nat} (n k : Nat) (x : BitVec w) (hk : k < 32) :
    (fieldAt n x).getLsbD k = (decide (n ≤ k) && x.getLsbD (k - n)) := by
  by_cases h : n ≤ k
  · simp [fieldAt, hk, h]
  · simp [fieldAt, h]

/-- A field reads back at its own place. -/
theorem extractLsb'_fieldAt_same {w : Nat} (n : Nat) (x : BitVec w) (h : n + w ≤ 32) :
    (fieldAt n x).extractLsb' n w = x := by
  refine BitVec.eq_of_getLsbD_eq fun i hi => ?_
  rw [BitVec.getLsbD_extractLsb', getLsbD_fieldAt _ _ _ (by omega)]
  simp [hi]

/-- A field is 0 at every place that it does not meet. -/
theorem extractLsb'_fieldAt_disjoint {w : Nat} (n m v : Nat) (x : BitVec w) (h : n + w ≤ m ∨ m + v ≤ n)
    (hm : m + v ≤ 32) : (fieldAt n x).extractLsb' m v = 0 := by
  refine BitVec.eq_of_getLsbD_eq fun i hi => ?_
  rw [BitVec.getLsbD_extractLsb', getLsbD_fieldAt _ _ _ (by omega)]
  obtain h | h := h
  · simp [BitVec.getLsbD_of_ge x (m + i - n) (by omega)]
  · simp [show ¬ n ≤ m + i by omega]

theorem getLsbD_eq_of_extractLsb'_eq_bit {w : Word} {k : Nat} {b : Bool} (h : w.extractLsb' k 1 = bit b) :
    w.getLsbD k = b := by
  have h0 := congrArg (BitVec.getLsbD · 0) h
  simpa [bit] using h0

/-- Settles O51: STATUS is the union of its fields, which stand at disjoint places. -/
theorem statusMirrorsState : Obligations.StatusMirrorsState := by
  unfold Obligations.StatusMirrorsState
  refine ⟨rfl, fun s => ⟨fun v => rfl, rfl, getLsbD_eq_of_extractLsb'_eq_bit ?_, getLsbD_eq_of_extractLsb'_eq_bit ?_,
    getLsbD_eq_of_extractLsb'_eq_bit ?_, ?_, ?_, ?_, ?_, ?_, ?_, ?_, getLsbD_eq_of_extractLsb'_eq_bit ?_,
    getLsbD_eq_of_extractLsb'_eq_bit ?_, ?_⟩⟩
  all_goals simp [statusWord, BitVec.extractLsb'_or, extractLsb'_fieldAt_same, extractLsb'_fieldAt_disjoint]

end Sys2Proof.Machine
end

section
/-! The register window: which offsets name a register, and what an access answers (20_memory.md R80, R81). -/

namespace Sys2Proof.Machine

/-- The register map lists each register at its own offset. -/
theorem regOffset_of_regAt {off : Nat} {r : Reg} (h : regAt off = some r) : regOffset r = off := by
  unfold regAt at h
  split at h <;> cases h <;> rfl

theorem regOffset_lt (r : Reg) : regOffset r < 64 := by
  cases r <;> simp only [regOffset] <;> omega

/-- Outside the window there is no register. -/
theorem regAt_eq_none_of_ge {off : Nat} (h : 64 ≤ off) : regAt off = none := by
  refine Option.eq_none_iff_forall_ne_some.mpr fun r hr => ?_
  have hoff := regOffset_of_regAt hr
  have hlt := regOffset_lt r
  omega

theorem regAt_slot_isSome : ∀ k : Fin 16, (regAt (4 * k.val)).isSome = true := by decide

/-- Every aligned offset of the window names a register. -/
theorem exists_regAt_of_aligned {off : Nat} (ha : off % 4 = 0) (hw : off < 64) : ∃ r, regAt off = some r := by
  have hslot := regAt_slot_isSome ⟨off / 4, by omega⟩
  rw [show 4 * (off / 4) = off by omega] at hslot
  exact Option.isSome_iff_exists.mp hslot

theorem access_of_bad_form {off width : Nat} (h : width ≠ 4 ∨ off % 4 ≠ 0) (act : Reg → State) :
    access off width act = .refused .hostAccessForm :=
  if_neg fun ⟨hw, ha⟩ => h.elim (· hw) (· ha)

theorem access_of_regAt_none {off : Nat} (ha : off % 4 = 0) (hr : regAt off = none) (act : Reg → State) :
    access off 4 act = .refused .outsideWindow := by
  simp [access, ha, hr]

theorem access_of_regAt_some {off : Nat} {r : Reg} (ha : off % 4 = 0) (hr : regAt off = some r)
    (act : Reg → State) : access off 4 act = .next (act r) := by
  simp [access, ha, hr]

/-- Settles O50: the register map has a register at exactly the aligned offsets below 64. -/
theorem onlyAlignedWindowAccessesRun : Obligations.OnlyAlignedWindowAccessesRun := by
  unfold Obligations.OnlyAlignedWindowAccessesRun
  refine fun off width v s => ⟨fun h => ?_, ?_, ?_⟩
  · exact ⟨access_of_bad_form h _, access_of_bad_form h _⟩
  · rintro rfl ha hout
    have hr := regAt_eq_none_of_ge hout
    exact ⟨access_of_regAt_none ha hr _, access_of_regAt_none ha hr _⟩
  · rintro rfl ha hw
    obtain ⟨r, hr⟩ := exists_regAt_of_aligned ha hw
    exact ⟨r, regOffset_of_regAt hr, access_of_regAt_some ha hr _, access_of_regAt_some ha hr _⟩

end Sys2Proof.Machine
end

section
/-! Words and blocks: a column is the four bytes of its word, the first byte most significant (20_memory.md R84). -/

namespace Sys2Proof.Machine

theorem colGet_wordToCol (w : Word) (j : Fin 4) : colGet (wordToCol w) j = w.extractLsb' (24 - 8 * j.val) 8 := by
  fin_cases j <;> rfl

theorem blockCol_w2b (q : Quad) (k : Fin 4) : blockCol (w2b q) k = wordToCol (quadGet q k) := by
  fin_cases k <;> rfl

/-- The four bytes of a column stand at disjoint places of its word, so each reads back. -/
@[simp] theorem wordToCol_colToWord (c : Column) : wordToCol (colToWord c) = c := by
  simp [wordToCol, colToWord, BitVec.extractLsb'_or, extractLsb'_fieldAt_same, extractLsb'_fieldAt_disjoint]

/-- Every bit of a word is a bit of one of its four bytes. -/
theorem wordToCol_injective {v w : Word} (h : wordToCol v = wordToCol w) : v = w := by
  refine BitVec.eq_of_getLsbD_eq fun i hi => ?_
  have hbyte := congrArg (fun c => (colGet c ⟨3 - i / 8, by omega⟩).getLsbD (i % 8)) h
  simp only [colGet_wordToCol, BitVec.getLsbD_extractLsb'] at hbyte
  simpa [Nat.mod_lt, show 24 - 8 * (3 - i / 8) + i % 8 = i by omega] using hbyte

@[simp] theorem colToWord_wordToCol (w : Word) : colToWord (wordToCol w) = w :=
  wordToCol_injective (wordToCol_colToWord _)

theorem b2w_w2b (q : Quad) : b2w (w2b q) = q := by simp [b2w, w2b]

theorem w2b_b2w (b : Block) : w2b (b2w b) = b := by simp [b2w, w2b]

theorem blockGet_w2b (q : Quad) (k j : Fin 4) :
    blockGet (w2b q) (idx j k) = (quadGet q k).extractLsb' (24 - 8 * j.val) 8 := by
  rw [blockGet_idx, blockAt, blockCol_w2b, colGet_wordToCol]

/-- Settles O52: a word and its column hold the same four bytes. -/
theorem blockWordMapping : Obligations.BlockWordMapping := by
  unfold Obligations.BlockWordMapping
  exact ⟨blockGet_w2b, b2w_w2b, w2b_b2w⟩

end Sys2Proof.Machine
end

section
/-! The decoder read backwards, and the core step's checks in order (30_encoding.md R110 to R118). -/

namespace Sys2Proof.Machine

/-! ### The word that decodes to a command (30_encoding.md R110 to R114) -/

/-- The opcode map gives a command its OP back, and its ARG unless the command carries none. -/
theorem opcode_argByte_of_instrOf {op arg : Byte} {i : Instr} (h : instrOf op arg = some i) :
    opcode i = op ∧ (argClass i ≠ .none → argByte i = arg) := by
  unfold instrOf at h
  split at h <;> cases h
  all_goals exact ⟨(BitVec.eq_of_toNat_eq ‹_›).symm, by simp [argClass, argByte]⟩

/-- A word that decodes has the fields of its command: RSV is 0, and ARG is 0 where the command carries none. -/
theorem fields_of_decode {w : Word} {i : Instr} (h : decode w = .instr i) :
    rsvField w = 0 ∧ argField w = argByte i ∧ opField w = opcode i := by
  obtain ⟨hop, harg⟩ := opcode_argByte_of_instrOf (instrOf_of_decode h)
  simp only [decode, instrOf_of_decode h] at h
  split at h
  · cases h
  next hrsv =>
    split at h
    · cases h
    next hzero =>
      refine ⟨not_not.mp hrsv, ?_, hop.symm⟩
      by_cases hc : argClass i = .none
      · rw [argByte_eq_zero_of_class_none hc]
        exact not_not.mp fun ha => hzero ⟨hc, ha⟩
      · exact (harg hc).symm

/-- The three fields are all of a word. -/
theorem fields_append (w : Word) : (rsvField w ++ argField w) ++ opField w = w := by
  rw [rsvField, argField, BitVec.extractLsb'_append_extractLsb'_eq_extractLsb' (show 16 = 8 + 8 from rfl)]
  exact BitVec.extractLsb'_append_extractLsb'

theorem encode_of_decode {w : Word} {i : Instr} (h : decode w = .instr i) : encode i = w := by
  obtain ⟨hrsv, harg, hop⟩ := fields_of_decode h
  rw [← fields_append w, hrsv, harg, hop]
  rfl

/-! ### Reserved encodings (30_encoding.md R112, R115) -/

theorem opcode_mem_noneOps_iff (i : Instr) : (opcode i).toNat ∈ noneOps ↔ argClass i = .none := by
  cases i <;> simp [opcode, noneOps, argClass]

theorem opcode_mem_argOps_iff (i : Instr) : (opcode i).toNat ∈ argOps ↔ argClass i ≠ .none := by
  cases i <;> simp [opcode, argOps, argClass]

theorem opcode_mem_map (i : Instr) : (opcode i).toNat ∈ noneOps ++ argOps := by
  rw [List.mem_append, opcode_mem_noneOps_iff, opcode_mem_argOps_iff]
  exact em _

theorem not_reservedWord_encode (i : Instr) : ¬ ReservedWord (encode i) := by
  have hopcode := congrArg BitVec.toNat (opField_encode i)
  rintro (hrsv | hop | ⟨hop, harg⟩)
  · exact hrsv (rsvField_encode i)
  · exact hop (hopcode ▸ opcode_mem_map i)
  · have hclass := (opcode_mem_noneOps_iff i).mp (hopcode ▸ hop)
    exact harg ((argField_encode i).trans (argByte_eq_zero_of_class_none hclass))

theorem exists_reserved_of_reservedWord {w : Word} (h : ReservedWord w) : ∃ why, decode w = .reserved why := by
  cases hd : decode w with
  | reserved why => exact ⟨why, rfl⟩
  | instr i => exact absurd (encode_of_decode hd ▸ h) (not_reservedWord_encode i)

/-! ### The checks of a command (30_encoding.md R116, R117) -/

/-- A command's own rule, behind the checks: KEY_EXPAND answers a request, every other rule is what a resumption
runs. -/
def ownRule (i : Instr) (s : State) : Result := if i = .keyExpand then runKeyExpand s else resume i s

theorem exec_eq_checked (i : Instr) (s : State) : exec i s = checked i s (ownRule i s) := by
  by_cases hi : i = .keyExpand
  · subst hi; rfl
  · rw [ownRule, if_neg hi, exec_eq_checked_resume hi]

theorem operandOk_iff (i : Instr) : operandOk i = true ↔ (argClass i = .round → (argByte i).toNat ≤ 10) := by
  unfold operandOk
  split <;> simp [*]

theorem exec_of_illegal {i : Instr} {s : State} (hp : placeOf s ∉ legalPlaces i) :
    exec i s = .next (raise .seq (encode i) s) :=
  (exec_eq_checked i s).trans (checked_of_illegal ((legal_eq_false_iff_place i s).mpr hp))

theorem exec_of_operand {i : Instr} {s : State} (hp : placeOf s ∈ legalPlaces i) (hc : argClass i = .round)
    (ha : 10 < (argByte i).toNat) : exec i s = .next (raise .operand (encode i) s) := by
  have ho : operandOk i = false := by
    rw [← Bool.not_eq_true, operandOk_iff]
    exact fun h => absurd (h hc) ha.not_ge
  exact (exec_eq_checked i s).trans (checked_of_operand ((legal_iff_place i s).mpr hp) ho)

theorem exec_of_passes {i : Instr} {s : State} (hp : placeOf s ∈ legalPlaces i)
    (ho : argClass i = .round → (argByte i).toNat ≤ 10) : exec i s = ownRule i s :=
  (exec_eq_checked i s).trans (checked_of_passes ((legal_iff_place i s).mpr hp) ((operandOk_iff i).mpr ho))

/-! ### The step with BUSY = 1 and the core's turn (30_encoding.md R118) -/

theorem step_of_outside {s : State} (h : s.busy = false ∨ coreTurn s.host = false) : step s = outsideStep s := by
  obtain ⟨hb, ht, -⟩ | ⟨-, hstep⟩ := step_cases s
  · simp [hb, ht] at h
  · exact hstep

theorem step_of_core {s : State} (hb : s.busy = true) (ht : coreTurn s.host = true) : step s = coreStep s := by
  obtain ⟨-, -, hstep⟩ | ⟨hout, -⟩ := step_cases s
  · exact hstep
  · simp [hb, ht] at hout

theorem step_of_reserved {s : State} (hb : s.busy = true) (ht : coreTurn s.host = true) {why : Reserved}
    (hd : decode s.cmdlatch = .reserved why) : step s = .next (raise .notimpl s.cmdlatch (takeCommand s)) := by
  rw [step_of_core hb ht, coreStep, hd]

theorem step_of_instr {s : State} (hb : s.busy = true) (ht : coreTurn s.host = true) {i : Instr}
    (hd : decode s.cmdlatch = .instr i) : step s = exec i (takeCommand s) := by
  rw [step_of_core hb ht, coreStep, hd]

/-! ### The obligations -/

/-- Settles O2: OP names the command, and ARG is the argument or the 0 that a NONE command needs. -/
theorem decodeOfEncode : Obligations.DecodeOfEncode := decode_encode

/-- Settles O3: the three fields of a decoded word are those of its command, and they are all of the word. -/
theorem decodedWordIsItsEncoding : Obligations.DecodedWordIsItsEncoding := by
  unfold Obligations.DecodedWordIsItsEncoding
  exact fun _ _ => encode_of_decode

/-- Settles O4: a reserved word is no command's word, so the decoder refuses it. -/
theorem reservedWordRaisesNotImplemented : Obligations.ReservedWordRaisesNotImplemented := by
  unfold Obligations.ReservedWordRaisesNotImplemented
  intro s hb ht hw
  obtain ⟨why, hd⟩ := exists_reserved_of_reservedWord hw
  exact step_of_reserved hb ht hd

/-- Settles O5: the latched word is the command's word and its ARG the command's argument, so the step's checks are
those of `exec`. -/
theorem coreStepChecksInOrder : Obligations.CoreStepChecksInOrder := by
  unfold Obligations.CoreStepChecksInOrder
  refine ⟨fun s => step_of_outside, fun s hb ht => ⟨fun why => step_of_reserved hb ht, fun i hd => ?_⟩⟩
  obtain ⟨-, harg, -⟩ := fields_of_decode hd
  rw [step_of_instr hb ht hd, harg, ← encode_of_decode hd]
  exact ⟨fun hp => exec_of_illegal hp, fun hp => exec_of_operand hp, fun hp => exec_of_passes hp⟩

/-- Settles O8: the legality check is the first of a command's meaning. -/
theorem illegalCommandRaisesSeqError : Obligations.IllegalCommandRaisesSeqError := by
  unfold Obligations.IllegalCommandRaisesSeqError
  exact fun _ _ => exec_of_illegal

/-- Settles O1: the twelve words, computed. -/
theorem commandWordsDecode : Obligations.CommandWordsDecode := by
  unfold Obligations.CommandWordsDecode
  decide

/-- Settles O6: a word that decodes to a command runs it. -/
theorem stepRunsDecodedCommand : Obligations.StepRunsDecodedCommand := by
  unfold Obligations.StepRunsDecodedCommand
  exact fun _ _ hb ht => step_of_instr hb ht

/-- Settles O9: in IDLE the ROUND commands are legal, so the operand check decides. -/
theorem roundIndexAboveTenRaisesOperandError : Obligations.RoundIndexAboveTenRaisesOperandError := by
  unfold Obligations.RoundIndexAboveTenRaisesOperandError
  intro r s hr hm hq
  have hplace : placeOf s = .idle := by simp [placeOf, hm, hq]
  exact ⟨exec_of_operand (by simp [hplace, legalPlaces]) rfl hr,
    exec_of_operand (by simp [hplace, legalPlaces]) rfl hr⟩

end Sys2Proof.Machine
end

section
/-! The field product: linear in each factor, and equal to its mirror image because bytes are made from 0x01 by XOR
and multiplication by x (40_tables_and_field.md R141 to R143). -/

namespace Sys2Proof.Machine

/-! ### Multiplication by x and the loop -/

/-- A coefficient times a byte: what the reduction by x and each round of the loop add. -/
def bitMul (c : Bool) (m : Byte) : Byte := if c then m else 0x00

theorem bitMul_xor_left (c d : Bool) (m : Byte) : bitMul (c ^^ d) m = bitMul c m ^^^ bitMul d m := by
  cases c <;> cases d <;> simp [bitMul]

theorem bitMul_xor_right (c : Bool) (m m' : Byte) : bitMul c (m ^^^ m') = bitMul c m ^^^ bitMul c m' := by
  cases c <;> simp [bitMul]

theorem xtime_eq (a : Byte) : xtime a = a <<< 1 ^^^ bitMul (a.getLsbD 7) 0x1B := rfl

theorem gmulLoop_succ (n : Nat) (a b p : Byte) :
    gmulLoop (n + 1) a b p = gmulLoop n (xtime a) (b >>> 1) (p ^^^ bitMul (b.getLsbD 0) a) := by
  rw [gmulLoop, bitMul]
  split
  · rfl
  · exact congrArg _ BitVec.xor_zero.symm

theorem xtime_xor (a b : Byte) : xtime (a ^^^ b) = xtime a ^^^ xtime b := by
  simp only [xtime_eq, BitVec.shiftLeft_xor_distrib, BitVec.getLsbD_xor, bitMul_xor_left]
  ac_rfl

theorem xtime_zero : xtime 0x00 = 0x00 := by decide

theorem xtime_bitMul (c : Bool) (a : Byte) : xtime (bitMul c a) = bitMul c (xtime a) := by
  cases c with
  | false => exact xtime_zero
  | true => rfl

/-- The loop is linear in the factor it shifts left. -/
theorem gmulLoop_xor_left (n : Nat) (a a' b p p' : Byte) :
    gmulLoop n (a ^^^ a') b (p ^^^ p') = gmulLoop n a b p ^^^ gmulLoop n a' b p' := by
  induction n generalizing a a' b p p' with
  | zero => rfl
  | succ n ih =>
    simp only [gmulLoop_succ, xtime_xor, bitMul_xor_right, ← ih]
    ac_rfl

/-- The loop is linear in the factor it shifts right. -/
theorem gmulLoop_xor_right (n : Nat) (a b b' p p' : Byte) :
    gmulLoop n a (b ^^^ b') (p ^^^ p') = gmulLoop n a b p ^^^ gmulLoop n a b' p' := by
  induction n generalizing a b b' p p' with
  | zero => rfl
  | succ n ih =>
    simp only [gmulLoop_succ, BitVec.ushiftRight_xor_distrib, BitVec.getLsbD_xor, bitMul_xor_left, ← ih]
    ac_rfl

/-- Multiplying the factor shifted left and the sum by x multiplies the loop's answer by x. -/
theorem gmulLoop_xtime (n : Nat) (a b p : Byte) :
    gmulLoop n (xtime a) b (xtime p) = xtime (gmulLoop n a b p) := by
  induction n generalizing a b p with
  | zero => rfl
  | succ n ih => rw [gmulLoop_succ, gmulLoop_succ, ← ih, xtime_xor, xtime_bitMul]

/-- The loop stays inside every set of bytes closed under XOR and multiplication by x. -/
theorem gmulLoop_mem {P : Byte → Prop} (hx : ∀ a, P a → P (xtime a)) (hadd : ∀ a b, P a → P b → P (a ^^^ b))
    (n : Nat) {a p : Byte} (b : Byte) (ha : P a) (hp : P p) : P (gmulLoop n a b p) := by
  induction n generalizing a b p with
  | zero => exact hp
  | succ n ih =>
    refine ih _ (hx a ha) ?_
    split
    · exact hadd p a hp ha
    · exact hp

/-! ### The product -/

theorem gmul_xor_left (a b c : Byte) : gmul (a ^^^ b) c = gmul a c ^^^ gmul b c :=
  gmulLoop_xor_left 8 a b c 0x00 0x00

theorem gmul_xor_right (a b c : Byte) : gmul a (b ^^^ c) = gmul a b ^^^ gmul a c :=
  gmulLoop_xor_right 8 a b c 0x00 0x00

theorem gmul_xtime_left (a b : Byte) : gmul (xtime a) b = xtime (gmul a b) := gmulLoop_xtime 8 a b 0x00

theorem gmul_zero_right (a : Byte) : gmul a 0x00 = 0x00 := rfl

theorem gmul_one_right (a : Byte) : gmul a 0x01 = a := BitVec.zero_xor

theorem gmul_one_left : ∀ a : Byte, gmul 0x01 a = a := by decide +kernel

/-- Every byte is a sum of powers of x: what holds of 0x01 and is kept by multiplication by x and by XOR holds of
every byte. -/
theorem byte_induction {P : Byte → Prop} (one : P 0x01) (xtime : ∀ a, P a → P (xtime a))
    (xor : ∀ a b, P a → P b → P (a ^^^ b)) (a : Byte) : P a :=
  gmul_one_left a ▸ gmulLoop_mem xtime xor 8 a one (xor _ _ one one)

theorem gmul_xtime_right (a b : Byte) : gmul a (xtime b) = xtime (gmul a b) := by
  induction a using byte_induction with
  | one => simp only [gmul_one_left]
  | xtime a ih => simp only [gmul_xtime_left, ih]
  | xor a a' ih ih' => simp only [gmul_xor_left, ih, ih', xtime_xor]

theorem gmul_comm (a b : Byte) : gmul a b = gmul b a := by
  induction a using byte_induction with
  | one => rw [gmul_one_left, gmul_one_right]
  | xtime a ih => rw [gmul_xtime_left, gmul_xtime_right, ih]
  | xor a a' ih ih' => rw [gmul_xor_left, gmul_xor_right, ih, ih']

theorem gmul_assoc (a b c : Byte) : gmul (gmul a b) c = gmul a (gmul b c) := by
  induction a using byte_induction with
  | one => simp only [gmul_one_left]
  | xtime a ih => simp only [gmul_xtime_left, ih]
  | xor a a' ih ih' => simp only [gmul_xor_left, ih, ih']

/-- Settles O31: both factors act linearly and commute with multiplication by x, which decides a product of bytes. -/
theorem fieldProductLaws : Obligations.FieldProductLaws := by
  unfold Obligations.FieldProductLaws
  exact fun a b c => ⟨gmul_comm a b, gmul_assoc a b c, gmul_xor_right a b c, gmul_one_right a, gmul_zero_right a⟩

end Sys2Proof.Machine
end

section
/-! The inverse of the field, and the ROMs that follow from it (40_tables_and_field.md R144 to R147). -/

namespace Sys2Proof.Machine

/-! ### Powers: raising to a power of two is additive, and the 256th power of a byte is the byte -/

theorem gmul_zero_left (a : Byte) : gmul 0x00 a = 0x00 := by rw [gmul_comm, gmul_zero_right]

theorem xtime_eq_gmul (a : Byte) : xtime a = gmul 0x02 a := by
  rw [show (0x02 : Byte) = xtime 0x01 by decide, gmul_xtime_left, gmul_one_left]

theorem gmul_gmul_gmul_comm (a b c d : Byte) : gmul (gmul a b) (gmul c d) = gmul (gmul a c) (gmul b d) := by
  rw [gmul_assoc, ← gmul_assoc b, gmul_comm b c, gmul_assoc c, ← gmul_assoc]

theorem gmul_self_xor (a b : Byte) : gmul (a ^^^ b) (a ^^^ b) = gmul a a ^^^ gmul b b := by
  rw [gmul_xor_left, gmul_xor_right, gmul_xor_right, gmul_comm b a, BitVec.xor_assoc, ← BitVec.xor_assoc (gmul a b),
    BitVec.xor_self, BitVec.zero_xor]

theorem gpow_succ (a : Byte) (n : Nat) : gpow a (n + 1) = gmul a (gpow a n) := rfl

theorem gpow_add (a : Byte) (m n : Nat) : gpow a (m + n) = gmul (gpow a m) (gpow a n) := by
  induction m with
  | zero => rw [Nat.zero_add]; exact (gmul_one_left _).symm
  | succ m ih => rw [Nat.succ_add, gpow_succ, gpow_succ, ih, gmul_assoc]

theorem gpow_gmul (a b : Byte) (n : Nat) : gpow (gmul a b) n = gmul (gpow a n) (gpow b n) := by
  induction n with
  | zero => exact (gmul_one_left 0x01).symm
  | succ n ih => rw [gpow_succ, gpow_succ, gpow_succ, ih, gmul_gmul_gmul_comm]

theorem gpow_two_pow_xor (a b : Byte) (k : Nat) : gpow (a ^^^ b) (2 ^ k) = gpow a (2 ^ k) ^^^ gpow b (2 ^ k) := by
  induction k with
  | zero => exact gmul_xor_left a b 0x01
  | succ k ih => rw [Nat.pow_succ, Nat.mul_two, gpow_add, gpow_add, gpow_add, ih, gmul_self_xor]

/-- Raising to the 256th power fixes 0x01 and x and respects both operations, so it fixes every byte. -/
theorem gpow_256 (a : Byte) : gpow a 256 = a := by
  induction a using byte_induction with
  | one => decide +kernel
  | xtime a ih =>
    have hx : gpow 0x02 256 = 0x02 := by decide +kernel
    rw [xtime_eq_gmul, gpow_gmul, hx, ih]
  | xor a b iha ihb =>
    have hxor : gpow (a ^^^ b) 256 = gpow a 256 ^^^ gpow b 256 := gpow_two_pow_xor a b 8
    rw [hxor, iha, ihb]

/-! ### The inverse (40_tables_and_field.md R144) -/

/-- A factor that has an inverse cancels. -/
theorem gmul_left_cancel {a v x y : Byte} (hv : gmul a v = 0x01) (h : gmul a x = gmul a y) : x = y := by
  have hcancel (z : Byte) : gmul v (gmul a z) = z := by rw [← gmul_assoc, gmul_comm v, hv, gmul_one_left]
  rw [← hcancel x, h, hcancel]

theorem ginv_zero : ginv 0x00 = 0x00 := gmul_zero_left (gpow 0x00 253)

/-- The 254th power is the inverse of a byte that has one: `a^254 • a • a = a`. -/
theorem ginv_eq_of_gmul_eq_one {a v : Byte} (hv : gmul a v = 0x01) : ginv a = v := by
  have hpow : gmul a (gmul a (ginv a)) = a := gpow_256 a
  have hinv : gmul a (ginv a) = 0x01 := gmul_left_cancel hv (by rw [hpow, gmul_one_right])
  exact gmul_left_cancel hv (by rw [hinv, hv])

/-! ### SBOX (40_tables_and_field.md R145) -/

/-- The byte that the affine map of the S-box takes to `b`. -/
def affinePreimage (b : Byte) : Byte := b.rotateLeft 1 ^^^ b.rotateLeft 3 ^^^ b.rotateLeft 6 ^^^ 0x05

theorem sboxAffine_affinePreimage : ∀ b : Byte, sboxAffine (affinePreimage b) = b := by decide +kernel

theorem affinePreimage_sbox_zero : affinePreimage (sbox 0x00) = 0x00 := by decide

/-- The table holds an inverse for each byte but 0x00, read off the 256 entries. -/
theorem gmul_affinePreimage_sbox : ∀ a : Byte, a ≠ 0x00 → gmul a (affinePreimage (sbox a)) = 0x01 := by
  decide +kernel

theorem ginv_eq_affinePreimage (a : Byte) : ginv a = affinePreimage (sbox a) := by
  by_cases ha : a = 0x00
  · rw [ha, ginv_zero, affinePreimage_sbox_zero]
  · exact ginv_eq_of_gmul_eq_one (gmul_affinePreimage_sbox a ha)

theorem gmul_ginv {a : Byte} (ha : a ≠ 0x00) : gmul a (ginv a) = 0x01 := by
  rw [ginv_eq_affinePreimage, gmul_affinePreimage_sbox a ha]

theorem sbox_eq_sboxAffine_ginv (a : Byte) : sbox a = sboxAffine (ginv a) := by
  rw [ginv_eq_affinePreimage, sboxAffine_affinePreimage]

theorem sbox_ne_self_and_ne_not : ∀ a : Byte, sbox a ≠ a ∧ sbox a ≠ a ^^^ 0xFF := by decide +kernel

/-! ### INV_SBOX and RCON (40_tables_and_field.md R146, R147) -/

@[simp] theorem invSbox_sbox : ∀ a : Byte, invSbox (sbox a) = a := by decide +kernel

@[simp] theorem sbox_invSbox : ∀ a : Byte, sbox (invSbox a) = a := by decide +kernel

theorem rcon_succ_eq_gpow : ∀ k : Fin 10, rcon (k.val + 1) = gpow 0x02 k.val := by decide

/-! ### The obligations -/

/-- Settles O32: each entry of the table, taken back through the affine map, is an inverse of its index, and a byte has
only one. -/
theorem sboxFollowsItsDefinition : Obligations.SboxFollowsItsDefinition := by
  unfold Obligations.SboxFollowsItsDefinition
  refine ⟨ginv_zero, fun a ha => ⟨gmul_ginv ha, fun y hy => ?_⟩, sbox_eq_sboxAffine_ginv, sbox_ne_self_and_ne_not⟩
  exact (ginv_eq_of_gmul_eq_one hy).symm

/-- Settles O33: the 256 entries of the two tables and the ten round constants, computed. -/
theorem inverseTableAndRoundConstants : Obligations.InverseTableAndRoundConstants := by
  unfold Obligations.InverseTableAndRoundConstants
  refine ⟨fun a => ⟨invSbox_sbox a, sbox_invSbox a⟩, fun j h1 h10 => ?_⟩
  have hj := rcon_succ_eq_gpow ⟨j - 1, by omega⟩
  rwa [Nat.sub_add_cancel h1] at hj

end Sys2Proof.Machine
end

section
/-! The stream adapter command by command: each branch of each rule as an equation, and the frames of the seven
commands (41_stream_adapter.md R180 to R196). -/

namespace Sys2Proof.Machine

/-! ### Each branch of each rule -/

/-- A command other than KEY_EXPAND that passes the checks runs its rule (30_encoding.md R118). -/
theorem exec_eq_resume {i : Instr} {s : State} (hi : i ≠ .keyExpand) (hl : legal i s.mode s.keyReq = true)
    (ho : operandOk i = true) : exec i s = resume i s :=
  (exec_eq_checked_resume hi s).trans (checked_of_passes hl ho)

section Encode

variable {i : Instr} {e : Byte} {s : State}

theorem ne_keyExpand_of_pushedByte (he : pushedByte i = some e) : i ≠ .keyExpand := fun hi => by
  subst hi; cases he

theorem operandOk_of_pushedByte (he : pushedByte i = some e) : operandOk i = true := by
  cases i with
  | encByte | encEol => rfl
  | _ => cases he

theorem legal_of_pushedByte (he : pushedByte i = some e) (hm : s.mode = .enc) (hq : s.keyReq = false) :
    legal i s.mode s.keyReq = true := by
  rw [hm, hq]
  cases i with
  | encByte | encEol => rfl
  | _ => cases he

theorem resume_eq_push (he : pushedByte i = some e) : resume i s = push i e s := by
  cases i with
  | encByte | encEol => cases he; rfl
  | _ => cases he

theorem exec_eq_push (he : pushedByte i = some e) (hm : s.mode = .enc) (hq : s.keyReq = false) :
    exec i s = push i e s :=
  (exec_eq_resume (ne_keyExpand_of_pushedByte he) (legal_of_pushedByte he hm hq) (operandOk_of_pushedByte he)).trans
    (resume_eq_push he)

theorem push_of_room (hn : s.ecnt ≠ 15) : push i e s = .next (bufferElement e s) := if_neg hn

theorem push_of_full (hn : s.ecnt = 15) : push i e s = needSchedule i s (.next (emitFull e s)) := if_pos hn

theorem exec_encEnd (hm : s.mode = .enc) (hq : s.keyReq = false) : exec .encEnd s = runEncEnd s :=
  exec_eq_resume nofun (by rw [hm, hq]; rfl) rfl

theorem runEncEnd_of_empty (hn : s.ecnt = 0) : runEncEnd s = .next (endSession s) := if_pos hn

theorem runEncEnd_of_rest (hn : s.ecnt ≠ 0) :
    runEncEnd s = needSchedule .encEnd s (.next (endSession (appendSink (cipher s.ebuf s.rk) s))) := if_neg hn

end Encode

section Decode

variable {c : Byte} {s : State}

theorem exec_decByte (hm : s.mode = .dec) (hq : s.keyReq = false) : exec (.decByte c) s = runDecByte c s :=
  exec_eq_resume nofun (by rw [hm, hq]; rfl) rfl

theorem runDecByte_of_room (hn : s.dcnt ≠ 15) : runDecByte c s = .next (bufferByte c s) := if_neg hn

theorem runDecByte_of_full (hn : s.dcnt = 15) :
    runDecByte c s = needSchedule (.decByte c) s (.next (decryptFull c s)) := if_pos hn

theorem exec_decEnd (hm : s.mode = .dec) (hq : s.keyReq = false) : exec .decEnd s = runDecEnd s :=
  exec_eq_resume nofun (by rw [hm, hq]; rfl) rfl

theorem runDecEnd_of_empty (hn : s.dcnt = 0) : runDecEnd s = .next (finishDecode s) := if_pos hn

theorem runDecEnd_of_reject (hn : s.dcnt ≠ 0) (hl : s.lenpol = true) :
    runDecEnd s = .next (endSession (raise .length (s.dcnt.setWidth 32) s)) :=
  (if_neg hn).trans (if_pos hl)

theorem runDecEnd_of_rest (hn : s.dcnt ≠ 0) (hl : s.lenpol = false) :
    runDecEnd s = needSchedule .decEnd s (.next (finishDecode (holdBack (invCipher s.dbuf s.rk) s))) :=
  (if_neg hn).trans (if_neg (by simp [hl]))

theorem decryptFull_eq (c : Byte) (s : State) : decryptFull c s = { s with
    lines := s.lines ++ (heldBytes s).map tokenOf
    lopen := openAfter (heldBytes s) s.lopen
    pbuf := invCipher (blockSet s.dbuf 15 c) s.rk
    pvalid := true
    dbuf := zeroBlock
    dcnt := 0 } := by
  rw [decryptFull, holdBack_eq]

/-- LOPEN follows the last byte delivered, so two deliveries are one of both (R191). -/
theorem openAfter_append (p q : List Byte) (o : Bool) : openAfter (p ++ q) o = openAfter q (openAfter p o) := by
  induction p generalizing o with
  | nil => rfl
  | cons x p ih => rw [List.cons_append, openAfter_cons, openAfter_cons, ih]

/-- What DEC_END delivers of a partial block: the block held back whole, then the last one stripped (R196). -/
theorem finishDecode_holdBack_eq (p : Block) (s : State) :
    let q := heldBytes s ++ stripZ (blockBytes p)
    finishDecode (holdBack p s) = endSession { s with
      lines := s.lines ++ q.map tokenOf ++ if openAfter q s.lopen then [.le] else [] } := by
  simp [finishDecode_eq, holdBack_eq, lastTokens, lastBytes, openAfter_append, endSession, clearSession]

end Decode

/-! ### StripZ (41_stream_adapter.md R193) -/

theorem stripZ_prefix (p : List Byte) : stripZ p <+: p := by
  induction p with
  | nil => exact List.prefix_rfl
  | cons x p ih =>
    unfold stripZ
    split
    · exact List.nil_prefix
    · exact (List.prefix_cons_inj x).mpr ih

theorem getLast?_stripZ_ne_zero (p : List Byte) : (stripZ p).getLast? ≠ some 0 := by
  induction p with
  | nil => simp [stripZ]
  | cons x p ih =>
    unfold stripZ
    split
    · simp
    next h =>
      cases hq : stripZ p with
      | nil => simpa [hq] using h
      | cons y q => rwa [List.getLast?_cons_cons, ← hq]

/-- Everything that `p` begins with and that does not end in 0x00, StripZ keeps whole. -/
theorem prefix_stripZ {p q : List Byte} (h : q <+: p) (hz : q.getLast? ≠ some 0) : q <+: stripZ p := by
  induction p generalizing q with
  | nil => exact h
  | cons x p ih =>
    cases q with
    | nil => exact List.nil_prefix
    | cons y q =>
      obtain ⟨rfl, hq⟩ := List.cons_prefix_cons.mp h
      have hrest : q <+: stripZ p := by
        cases q with
        | nil => exact List.nil_prefix
        | cons z q => exact ih hq (by rwa [List.getLast?_cons_cons] at hz)
      unfold stripZ
      split
      next hdrop =>
        obtain ⟨hnil, rfl⟩ := hdrop
        rw [hnil, List.prefix_nil] at hrest
        simp [hrest] at hz
      · exact (List.prefix_cons_inj y).mpr hrest

/-! ### The obligations -/

/-- Settles O35: Push, branch by branch. -/
theorem encodeElementBuffersOrEmits : Obligations.EncodeElementBuffersOrEmits := by
  unfold Obligations.EncodeElementBuffersOrEmits
  intro i e s hi hm hq
  have he : pushedByte i = some e := by obtain rfl | ⟨rfl, rfl⟩ := hi <;> rfl
  rw [exec_eq_push he hm hq]
  refine ⟨push_of_room, fun hn hk => ?_, fun hn hk => ?_⟩
  · exact (push_of_full hn).trans (needSchedule_of_valid hk)
  · exact (push_of_full hn).trans (needSchedule_of_absent hk)

/-- Settles O37: DEC_BYTE, branch by branch; the block delivered is the one held back, if there is one. -/
theorem decByteHoldsBlocksBack : Obligations.DecByteHoldsBlocksBack := by
  unfold Obligations.DecByteHoldsBlocksBack
  intro c s hm hq
  rw [exec_decByte hm hq]
  refine ⟨runDecByte_of_room, fun hn hk hv => ?_, fun hn hk hv => ?_, fun hn hk => ?_⟩
  · rw [runDecByte_of_full hn, needSchedule_of_valid hk, decryptFull_eq]
    simp [heldBytes, hv, openAfter]
  · rw [runDecByte_of_full hn, needSchedule_of_valid hk, decryptFull_eq]
    simp [heldBytes, hv]
  · exact (runDecByte_of_full hn).trans (needSchedule_of_absent hk)

/-- Settles O38: DEC_END, branch by branch. -/
theorem decEndDeliversTheRest : Obligations.DecEndDeliversTheRest := by
  unfold Obligations.DecEndDeliversTheRest
  intro s hm hq
  rw [exec_decEnd hm hq]
  refine ⟨fun hn => ?_, fun hn hl => ?_, fun hn hl hk => ?_, fun hn hl hk => ?_⟩
  · rw [runDecEnd_of_empty hn, finishDecode_eq, lastTokens, ← List.append_assoc]
    rfl
  · rw [runDecEnd_of_reject hn hl, ← BitVec.ofNat_toNat]
    rfl
  · rw [runDecEnd_of_rest hn hl, needSchedule_of_valid hk, finishDecode_holdBack_eq]
    rfl
  · exact (runDecEnd_of_rest hn hl).trans (needSchedule_of_absent hk)

/-- Settles O39: by induction on the bytes. -/
theorem deliverSplitsAtNewlines : Obligations.DeliverSplitsAtNewlines := deliver_eq

/-- Settles O40: StripZ(p) is such a beginning of `p`, and StripZ(p) itself begins with every other one. -/
theorem stripZIsTheLongestPrefix : Obligations.StripZIsTheLongestPrefix := by
  unfold Obligations.StripZIsTheLongestPrefix
  exact fun p => ⟨stripZ_prefix p, getLast?_stripZ_ne_zero p, fun q hq hz => (prefix_stripZ hq hz).length_le⟩

/-- Settles O58: by what the rules of the three commands can answer. -/
theorem streamElementFrame : Obligations.StreamElementFrame := by
  unfold Obligations.StreamElementFrame
  refine ⟨fun i s t hi h => ?_, fun c s t h => ?_⟩
  · obtain ⟨e, he⟩ : ∃ e, pushedByte i = some e := by obtain rfl | ⟨b, rfl⟩ := hi <;> exact ⟨_, rfl⟩
    rw [exec_eq_checked_resume (ne_keyExpand_of_pushedByte he), resume_eq_push he] at h
    obtain ⟨-, -, hpush⟩ | ⟨-, rfl⟩ | ⟨-, rfl⟩ := checked_next h
    · obtain ⟨-, rfl⟩ | ⟨-, -, rfl⟩ | ⟨-, -, rfl⟩ := push_next hpush <;> rfl
    · rfl
    · rfl
  · cases execTo_of_exec h with
    | illegal | badOperand => rfl
    | rule _ _ _ hr =>
      cases hr with
      | stage hb => cases hb
      | buffer he | emit he => cases he
      | request | decByteBuffer => rfl
      | decByteFull => rw [decryptFull_eq]

/-- Settles O59: by what the rules of the four commands can answer. -/
theorem sessionCommandFrame : Obligations.SessionCommandFrame := by
  unfold Obligations.SessionCommandFrame
  intro i s t hi h
  cases execTo_of_exec h with
  | illegal | badOperand => exact ⟨rfl, fun _ => rfl, fun _ => rfl, fun _ => ⟨rfl, rfl⟩⟩
  | resumed => simp at hi
  | rule _ _ _ hr =>
    cases hr with
    | encBegin | decBegin => exact ⟨rfl, fun _ => rfl, fun _ => rfl, fun _ => ⟨rfl, rfl⟩⟩
    | request hu =>
      exact ⟨rfl, fun _ => rfl, fun _ => rfl, fun hb => by obtain rfl | rfl := hb <;> cases hu⟩
    | encEndEmpty => exact ⟨rfl, fun _ => rfl, fun _ => rfl, by simp⟩
    | encEndTail => exact ⟨rfl, fun hne => absurd rfl hne, fun _ => rfl, by simp⟩
    | decEndReject => exact ⟨rfl, fun _ => rfl, fun _ => rfl, by simp⟩
    | decEndEmpty => simp [finishDecode_eq, endSession, clearSession, clearSchedule]
    | decEndTail => simp [finishDecode_holdBack_eq, endSession, clearSession, clearSchedule]
    | stage hb => obtain rfl | rfl | rfl | rfl := hi <;> cases hb
    | buffer he | emit he => obtain rfl | rfl | rfl | rfl := hi <;> cases he
    | _ => simp at hi

/-- Settles O34: the clearings of a session's start and end, listed. -/
theorem sessionsOpenAndClose : Obligations.SessionsOpenAndClose := by
  unfold Obligations.SessionsOpenAndClose
  refine ⟨fun s hm hq => ⟨?_, ?_⟩, fun s => rfl⟩
  · exact exec_eq_resume nofun (by rw [hm, hq]; rfl) rfl
  · exact exec_eq_resume nofun (by rw [hm, hq]; rfl) rfl

/-- Settles O36: ENC_END, branch by branch. -/
theorem encEndClosesTheCall : Obligations.EncEndClosesTheCall := by
  unfold Obligations.EncEndClosesTheCall
  intro s hm hq
  rw [exec_encEnd hm hq]
  refine ⟨runEncEnd_of_empty, fun hn hk => ?_, fun hn hk => ?_⟩
  · exact (runEncEnd_of_rest hn).trans (needSchedule_of_valid hk)
  · exact (runEncEnd_of_rest hn).trans (needSchedule_of_absent hk)

end Sys2Proof.Machine
end

section
/-! Padding and chunking (41_stream_adapter.md R181), and a command whose key request the host answers
(42_key_schedule.md R240 to R242). -/

namespace Sys2Proof.Machine

/-! ### The padded block of at most 16 bytes -/

theorem blockGet_padBlock (p : List Byte) (i : Fin 16) : blockGet (padBlock p) i = p.getD i.val 0 := by
  fin_cases i <;> rfl

theorem padBlock_blockBytes (b : Block) : padBlock (blockBytes b) = b := rfl

theorem getD_append_singleton (p : List Byte) (e : Byte) (n : Nat) :
    (p ++ [e]).getD n 0 = if n = p.length then e else p.getD n 0 := by
  split
  next hn => simp [hn]
  next hn =>
    obtain hlt | hgt := Nat.lt_or_gt_of_ne hn
    · exact List.getD_append _ _ _ _ hlt
    · rw [List.getD_eq_default _ _ (by simpa using hgt), List.getD_eq_default _ _ hgt.le]

/-- The buffer with its next free place filled holds the bytes so far and the new one. -/
theorem blockSet_padBlock {p : List Byte} {n : Fin 16} (hn : n.val = p.length) (e : Byte) :
    blockSet (padBlock p) n e = padBlock (p ++ [e]) := by
  refine block_ext fun i => ?_
  rw [blockGet_padBlock, getD_append_singleton]
  split
  next hi => rw [Fin.ext (hi.trans hn.symm), blockGet_set_same]
  next hi =>
    have hne : i ≠ n := fun h => hi (h ▸ hn)
    rw [blockGet_set_ne _ _ hne, blockGet_padBlock]

/-! ### The groups of 16 -/

/-- More rounds than bytes make no difference. -/
theorem chunkLoop_eq_of_length_le {n m : Nat} {e : List Byte} (hn : e.length ≤ n) (hm : e.length ≤ m) :
    chunkLoop n e = chunkLoop m e := by
  induction n generalizing m e with
  | zero => cases List.eq_nil_of_length_eq_zero (Nat.le_zero.mp hn); cases m <;> rfl
  | succ n ih =>
    cases m with
    | zero => cases List.eq_nil_of_length_eq_zero (Nat.le_zero.mp hm); rfl
    | succ m =>
      unfold chunkLoop
      rw [ih (m := m)] <;> simp <;> omega

theorem chunk_nil : chunk [] = [] := rfl

theorem chunk_of_ne_nil {e : List Byte} (he : e ≠ []) : chunk e = padBlock (e.take 16) :: chunk (e.drop 16) := by
  cases e with
  | nil => exact absurd rfl he
  | cons x e =>
    have hrest : chunkLoop e.length ((x :: e).drop 16) = chunk ((x :: e).drop 16) :=
      chunkLoop_eq_of_length_le (by simp) le_rfl
    rw [← hrest]
    rfl

/-- A remainder is one padded block. -/
theorem chunk_of_length_le {p : List Byte} (hp : p ≠ []) (hlen : p.length ≤ 16) : chunk p = [padBlock p] := by
  rw [chunk_of_ne_nil hp, List.take_of_length_le hlen, List.drop_of_length_le hlen, chunk_nil]

/-- A full group is one block. -/
theorem chunk_append {p : List Byte} (hp : p.length = 16) (e : List Byte) :
    chunk (p ++ e) = padBlock p :: chunk e := by
  rw [chunk_of_ne_nil (by rintro h; simp [List.append_eq_nil_iff.mp h] at hp), List.take_left' hp, List.drop_left' hp]

theorem chunk_eq_nil_iff {e : List Byte} : chunk e = [] ↔ e = [] := by
  refine ⟨fun h => ?_, fun h => h ▸ chunk_nil⟩
  by_contra he
  rw [chunk_of_ne_nil he] at h
  cases h

/-! ### A command and the host's answer (10_state.md R60) -/

/-- `s` with the schedule of key `k`, supplied as the answer to a request unless the call has one already. -/
def withKey (k : Block) (s : State) : State :=
  { s with
    rk := if s.ksv then s.rk else keyExpansion k
    ksv := true
    keyin := if s.ksv then s.keyin else zeroQuad
    keyReq := s.ksv && s.keyReq
    pend := if s.ksv then s.pend else 0 }

theorem withKey_of_valid {k : Block} {s : State} (hk : s.ksv = true) : withKey k s = s := by
  cases s; cases hk; rfl

/-- KEY_EXPAND answers the request with the schedule of the key and drops it (42_key_schedule.md R241). -/
theorem withKey_of_absent {k : Block} {s : State} (hk : s.ksv = false) (w : Word) :
    withKey k s = dropRequest (loadSchedule { requestKey w s with keyin := b2w k }) := by
  cases s; cases hk
  simp [withKey, loadSchedule, dropRequest, requestKey, clearKeyin, keyBlock, w2b_b2w]

/-- KEY_EXPAND runs the waiting command again with the schedule it asked for (42_key_schedule.md R242). -/
theorem exec_keyExpand_of_request {k : Block} {i : Instr} {s : State} (hk : s.ksv = false) :
    exec .keyExpand { requestKey (encode i) s with keyin := b2w k } = resume i (withKey k s) := by
  rw [withKey_of_absent hk (encode i), exec_eq_checked, checked_of_passes rfl rfl]
  change resumeWord (encode i) _ = _
  rw [resumeWord, opField_encode, argField_encode, instrOf_opcode_argByte]

/-- With a schedule no command waits. -/
theorem RunsTo.keyReq_eq_false {i : Instr} {s t : State} (h : RunsTo i s t) (hk : s.ksv = true)
    (hq : s.keyReq = false) : t.keyReq = false := by
  cases h with
  | request _ hk' => simp [hk] at hk'
  | abort | keyFailIdle | keyFailSession => rfl
  | decByteFull => simpa [decryptFull, holdBack_eq] using hq
  | decEndEmpty => simpa [finishDecode_eq] using hq
  | decEndTail => simpa [finishDecode_eq, holdBack_eq] using hq
  | _ => exact hq

theorem answering_of_next {k : Block} {i : Instr} {s t : State} (h : exec i s = .next t) (hq : t.keyReq = false) :
    answering k i s = .next t := by
  simp [answering, h, hq]

/-- A command that needs the schedule runs with it, whether or not it had to ask for it. Whether it needs it hangs on
the counts and LENPOL, which a request leaves alone. -/
theorem answering_of_needSchedule {k : Block} {i : Instr} {s : State} (f : State → State) (hi : i ≠ .keyExpand)
    (hl : legal i s.mode s.keyReq = true) (ho : operandOk i = true) (hq : s.keyReq = false)
    (hr : ∀ u : State, u.ecnt = s.ecnt → u.dcnt = s.dcnt → u.lenpol = s.lenpol →
      resume i u = needSchedule i u (.next (f u))) :
    answering k i s = .next (f (withKey k s)) := by
  have hexec := (exec_eq_resume hi hl ho).trans (hr s rfl rfl rfl)
  have hkeyed : resume i (withKey k s) = .next (f (withKey k s)) :=
    (hr (withKey k s) rfl rfl rfl).trans (needSchedule_of_valid rfl)
  cases hk : s.ksv with
  | true =>
    rw [withKey_of_valid hk] at hkeyed ⊢
    exact answering_of_next ((exec_eq_resume hi hl ho).trans hkeyed)
      ((runsTo_of_resume hkeyed).keyReq_eq_false hk hq)
  | false =>
    rw [needSchedule_of_absent hk] at hexec
    rw [← hkeyed, ← exec_keyExpand_of_request hk, answering, hexec]
    rfl

theorem callWith_cons {k : Block} {i : Instr} {is : List Instr} {s t : State} (h : answering k i s = .next t) :
    callWith k (i :: is) s = callWith k is t := by
  rw [callWith, h]

theorem callWith_singleton {k : Block} {i : Instr} {s t : State} (h : answering k i s = .next t) :
    callWith k [i] s = .next t := callWith_cons h

end Sys2Proof.Machine
end

section
/-! A whole encode call, each key request answered (41_stream_adapter.md R181 to R188). -/

namespace Sys2Proof.Machine

/-- `s` stands in an encode call with key `k` and the bytes `p` in its buffer. -/
structure Encoding (k : Block) (p : List Byte) (s : State) : Prop where
  mode : s.mode = .enc
  noRequest : s.keyReq = false
  schedule : s.ksv = true → s.rk = keyExpansion k
  ebuf : s.ebuf = padBlock p
  ecnt : s.ecnt.toNat = p.length

/-- The encode call that began in `s` has ended in `t`, the ciphertext of the bytes `e` emitted. -/
structure Encoded (k : Block) (e : List Byte) (s t : State) : Prop where
  sink : t.sink = s.sink ++ cipherBytes k (chunk e)
  lines : t.lines = s.lines
  err : t.err = s.err
  closed : callOpen t = false

theorem callOpen_eq_false_iff {s : State} : callOpen s = false ↔ s.keyReq = false ∧ s.mode = .idle := by
  simp [callOpen]

theorem withKey_rk {k : Block} {s : State} (h : s.ksv = true → s.rk = keyExpansion k) :
    (withKey k s).rk = keyExpansion k := by
  change (if s.ksv then s.rk else keyExpansion k) = _
  split
  next hk => exact h hk
  next => rfl

theorem withKey_keyReq {k : Block} {s : State} (h : s.keyReq = false) : (withKey k s).keyReq = false := by
  simp [withKey, h]

namespace Encoding

variable {k : Block} {p : List Byte} {s : State}

theorem withKey (h : Encoding k p s) : Encoding k p (withKey k s) :=
  { h with
    noRequest := withKey_keyReq h.noRequest
    schedule := fun _ => withKey_rk h.schedule }

theorem ecnt_eq_iff (h : Encoding k p s) (n : BitVec 4) : s.ecnt = n ↔ p.length = n.toNat := by
  rw [← h.ecnt, BitVec.toNat_inj]

theorem ebuf_set (h : Encoding k p s) (e : Byte) : blockSet s.ebuf s.ecnt.toFin e = padBlock (p ++ [e]) := by
  rw [h.ebuf, blockSet_padBlock h.ecnt]

/-- An element that finds room is buffered. -/
theorem answering_of_room (h : Encoding k p s) {i : Instr} {e : Byte} (he : pushedByte i = some e)
    (hn : p.length ≠ 15) :
    answering k i s = .next (bufferElement e s) ∧ Encoding k (p ++ [e]) (bufferElement e s) := by
  have hroom : s.ecnt ≠ 15 := fun heq => hn ((h.ecnt_eq_iff 15).mp heq)
  have hexec := (exec_eq_push he h.mode h.noRequest).trans (push_of_room hroom)
  refine ⟨answering_of_next hexec h.noRequest, { h with ebuf := h.ebuf_set e, ecnt := ?_ }⟩
  rw [List.length_append, ← h.ecnt]
  exact toNat_add_one_of_ne hroom

/-- The sixteenth element emits the block. -/
theorem answering_of_full (h : Encoding k p s) {i : Instr} {e : Byte} (he : pushedByte i = some e)
    (hn : p.length = 15) :
    ∃ t, answering k i s = .next t ∧ Encoding k [] t ∧
      t.sink = s.sink ++ blockBytes (cipher (padBlock (p ++ [e])) (keyExpansion k)) ∧ t.lines = s.lines ∧
      t.err = s.err := by
  have hfull : s.ecnt = 15 := (h.ecnt_eq_iff 15).mpr hn
  refine ⟨emitFull e (Machine.withKey k s), ?_, { h.withKey with ebuf := rfl, ecnt := rfl }, ?_, rfl, rfl⟩
  · exact answering_of_needSchedule (emitFull e) (ne_keyExpand_of_pushedByte he)
      (legal_of_pushedByte he h.mode h.noRequest) (operandOk_of_pushedByte he) h.noRequest
      fun u hu _ _ => (resume_eq_push he).trans (push_of_full (hu.trans hfull))
  · rw [← h.ebuf_set e, ← withKey_rk h.schedule, hfull]
    rfl

/-- ENC_END emits what is left and closes the call. -/
theorem answering_encEnd (h : Encoding k p s) : ∃ t, answering k .encEnd s = .next t ∧ Encoded k p s t := by
  by_cases hp : p = []
  · have hempty : s.ecnt = 0 := (h.ecnt_eq_iff 0).mpr (by simp [hp])
    have hexec := (exec_encEnd h.mode h.noRequest).trans (runEncEnd_of_empty hempty)
    refine ⟨_, answering_of_next hexec h.noRequest, ?_, rfl, rfl, callOpen_eq_false_iff.mpr ⟨h.noRequest, rfl⟩⟩
    simp [hp, chunk_nil, cipherBytes]
  · have hrest : s.ecnt ≠ 0 := fun heq => hp (List.eq_nil_of_length_eq_zero ((h.ecnt_eq_iff 0).mp heq))
    have hanswer := answering_of_needSchedule (k := k)
      (fun u => endSession (appendSink (cipher u.ebuf u.rk) u)) (i := .encEnd) nofun
      (by rw [h.mode, h.noRequest]; rfl) rfl h.noRequest fun u hu _ _ => runEncEnd_of_rest (hu ▸ hrest)
    refine ⟨_, hanswer, ?_, rfl, rfl, callOpen_eq_false_iff.mpr ⟨h.withKey.noRequest, rfl⟩⟩
    have hlen : p.length ≤ 16 := by have := s.ecnt.isLt; have := h.ecnt; omega
    rw [endSession_sink, appendSink, h.withKey.ebuf, withKey_rk h.schedule, chunk_of_length_le hp hlen]
    simp [cipherBytes, Machine.withKey]

/-- The elements of a call and its ENC_END, from any point of the call on. -/
theorem callWith_elements (h : Encoding k p s) {is : List Instr} {e : List Byte}
    (his : is.map pushedByte = e.map some) :
    ∃ t, callWith k (is ++ [.encEnd]) s = .next t ∧ Encoded k (p ++ e) s t := by
  induction is generalizing p s e with
  | nil =>
    cases List.map_eq_nil_iff.mp his.symm
    obtain ⟨t, ht, hend⟩ := h.answering_encEnd
    exact ⟨t, callWith_singleton ht, by rwa [List.append_nil]⟩
  | cons i is ih =>
    cases e with
    | nil => cases his
    | cons b e =>
      obtain ⟨hb, his⟩ := List.cons_eq_cons.mp his
      by_cases hn : p.length = 15
      · obtain ⟨t, ht, hnext, hsink, hlines, herr⟩ := h.answering_of_full hb hn
        obtain ⟨u, hu, hend⟩ := ih hnext his
        refine ⟨u, (callWith_cons ht).trans hu, ?_, hend.lines.trans hlines, hend.err.trans herr, hend.closed⟩
        have hgroup : chunk (p ++ b :: e) = padBlock (p ++ [b]) :: chunk e := by
          rw [List.append_cons, chunk_append (by simp [hn])]
        simp [hend.sink, hsink, hgroup, cipherBytes]
      · obtain ⟨ht, hnext⟩ := h.answering_of_room hb hn
        obtain ⟨u, hu, hend⟩ := ih hnext his
        rw [List.append_assoc] at hend
        exact ⟨u, (callWith_cons ht).trans hu, hend.sink, hend.lines, hend.err, hend.closed⟩

end Encoding

/-- Everything an encode call does, in either mode of R186 and R187: only the bytes its commands push count. -/
theorem callWith_encode (k : Block) {is : List Instr} {e : List Byte} (his : is.map pushedByte = e.map some)
    {s : State} (hm : s.mode = .idle) (hq : s.keyReq = false) :
    ∃ t, callWith k (.encBegin :: (is ++ [.encEnd])) s = .next t ∧ Encoded k e s t := by
  have hexec : exec .encBegin s = .next (beginSession .enc s) := exec_eq_resume nofun (by rw [hm, hq]; rfl) rfl
  have hbegin : Encoding k [] (beginSession .enc s) := ⟨rfl, hq, nofun, rfl, rfl⟩
  obtain ⟨t, ht, hend⟩ := hbegin.callWith_elements his
  exact ⟨t, (callWith_cons (answering_of_next hexec hq)).trans ht, hend.sink, hend.lines, hend.err, hend.closed⟩

/-- Settles O41: the buffer holds the elements since the last full group, which is what the chunks leave over. -/
theorem encodeCallOutput : Obligations.EncodeCallOutput := by
  unfold Obligations.EncodeCallOutput
  intro k e s hm hq
  obtain ⟨t, ht, hend⟩ := callWith_encode k (is := e.map .encByte) (e := e) (by simp [pushedByte]) hm hq
  exact ⟨t, ht, hend.sink, hend.lines, hend.closed, hend.err⟩

end Sys2Proof.Machine
end

section
/-! A whole decode call, each key request answered (41_stream_adapter.md R190 to R197). -/

namespace Sys2Proof.Machine

/-! ### What a call delivers of its plaintext blocks -/

/-- The block held back, if there is one (R192). -/
def heldBlocks (s : State) : List Block := if s.pvalid then [s.pbuf] else []

/-- The plaintext blocks of the ciphertext `c`. -/
def plainBlocks (k : Block) (c : List Byte) : List Block := (chunk c).map fun b => invCipher b (keyExpansion k)

/-- DEC_END turns a ciphertext of `c` away: it does not end with a whole block, and LENPOL is REJECT (R196). -/
def rejects (s : State) (c : List Byte) : Bool := s.lenpol && decide (c.length % 16 ≠ 0)

/-- What is turned away is not empty. -/
theorem plainBlocks_ne_nil_of_rejects {k : Block} {c : List Byte} {s : State} (h : rejects s c = true) :
    plainBlocks k c ≠ [] := fun hnil => by
  rw [plainBlocks, List.map_eq_nil_iff, chunk_eq_nil_iff] at hnil
  simp [hnil, rejects] at h

/-- The tokens that the plaintext blocks `p` add to LINES, LOPEN being `o` before: all but the last, which is stripped,
and the end of an open line; after a rejection all but the last, which was never decrypted, and the one before, which
is still held back (R196, R197). -/
def callTokens (rejected : Bool) (p : List Block) (o : Bool) : List Token :=
  if rejected then (p.dropLast.dropLast.flatMap blockBytes).map tokenOf
  else (strippedBytes p).map tokenOf ++ if openAfter (strippedBytes p) o then [.le] else []

theorem callTokens_accepted (p : List Block) (o : Bool) : callTokens false p o =
    (strippedBytes p).map tokenOf ++ if openAfter (strippedBytes p) o then [.le] else [] := rfl

theorem callTokens_rejected (p : List Block) (o : Bool) :
    callTokens true p o = (p.dropLast.dropLast.flatMap blockBytes).map tokenOf := rfl

theorem closingToken_eq (p : List Byte) : closingToken p = if openAfter p false then [.le] else [] := by
  cases p with
  | nil => rfl
  | cons x p => by_cases h : (x :: p).getLast? = some 0x0A <;> simp [closingToken, openAfter, h]

theorem strippedBytes_heldBlocks (s : State) : strippedBytes (heldBlocks s) = lastBytes s := by
  unfold heldBlocks lastBytes
  split <;> rfl

/-- A block that is not the last of its call is delivered whole. -/
theorem strippedBytes_heldBlocks_append (s : State) (b : Block) (q : List Block) :
    strippedBytes (heldBlocks s ++ b :: q) = heldBytes s ++ strippedBytes (b :: q) := by
  unfold heldBlocks heldBytes
  split <;> rfl

/-- The block held back is delivered when another one is decrypted, and that one is not turned away. -/
theorem callTokens_heldBlocks_append (s : State) (b : Block) {q : List Block} {r : Bool} (hq : r = true → q ≠ []) :
    callTokens r (heldBlocks s ++ b :: q) s.lopen =
      (heldBytes s).map tokenOf ++ callTokens r (b :: q) (openAfter (heldBytes s) s.lopen) := by
  cases r with
  | false => simp [callTokens_accepted, strippedBytes_heldBlocks_append, openAfter_append]
  | true =>
    rw [callTokens_rejected, callTokens_rejected, List.dropLast_cons_of_ne_nil (hq rfl)]
    unfold heldBlocks heldBytes
    split
    · simp [List.dropLast_cons_of_ne_nil (hq rfl)]
    · simp [List.dropLast_cons_of_ne_nil (hq rfl)]

/-- Of a block held back and one turned away nothing is delivered. -/
theorem callTokens_rejected_last (s : State) (b : Block) (o : Bool) :
    callTokens true (heldBlocks s ++ [b]) o = [] := by
  rw [callTokens_rejected, List.dropLast_concat]
  unfold heldBlocks
  split <;> rfl

/-! ### The call -/

/-- `s` stands in a decode call with key `k` and the bytes `p` in its buffer. -/
structure Decoding (k : Block) (p : List Byte) (s : State) : Prop where
  mode : s.mode = .dec
  noRequest : s.keyReq = false
  schedule : s.ksv = true → s.rk = keyExpansion k
  dbuf : s.dbuf = padBlock p
  dcnt : s.dcnt.toNat = p.length

/-- The decode call has gone on from `s` to its end in `t`, the plaintext blocks `p` delivered or, of a rejected call,
those before the block held back. -/
structure Decoded (rejected : Bool) (p : List Block) (s t : State) : Prop where
  lines : t.lines = s.lines ++ callTokens rejected p s.lopen
  sink : t.sink = s.sink
  err : t.err = if rejected = true ∧ s.err = .none then .length else s.err
  closed : callOpen t = false

namespace Decoding

variable {k : Block} {p : List Byte} {s : State}

theorem withKey (h : Decoding k p s) : Decoding k p (withKey k s) :=
  { h with
    noRequest := withKey_keyReq h.noRequest
    schedule := fun _ => withKey_rk h.schedule }

theorem dcnt_eq_iff (h : Decoding k p s) (n : BitVec 4) : s.dcnt = n ↔ p.length = n.toNat := by
  rw [← h.dcnt, BitVec.toNat_inj]

theorem dbuf_set (h : Decoding k p s) (c : Byte) : blockSet s.dbuf s.dcnt.toFin c = padBlock (p ++ [c]) := by
  rw [h.dbuf, blockSet_padBlock h.dcnt]

theorem length_lt (h : Decoding k p s) : p.length < 16 := h.dcnt ▸ s.dcnt.isLt

/-- A byte that finds room is buffered. -/
theorem answering_of_room (h : Decoding k p s) (c : Byte) (hn : p.length ≠ 15) :
    answering k (.decByte c) s = .next (bufferByte c s) ∧ Decoding k (p ++ [c]) (bufferByte c s) := by
  have hroom : s.dcnt ≠ 15 := fun heq => hn ((h.dcnt_eq_iff 15).mp heq)
  have hexec := (exec_decByte h.mode h.noRequest).trans (runDecByte_of_room (c := c) hroom)
  refine ⟨answering_of_next hexec h.noRequest, { h with dbuf := h.dbuf_set c, dcnt := ?_ }⟩
  rw [List.length_append, ← h.dcnt]
  exact toNat_add_one_of_ne hroom

/-- The sixteenth byte has its block decrypted and held back. -/
theorem answering_of_full (h : Decoding k p s) (c : Byte) (hn : p.length = 15) :
    answering k (.decByte c) s = .next (decryptFull c (Machine.withKey k s)) ∧
      Decoding k [] (decryptFull c (Machine.withKey k s)) ∧
      heldBlocks (decryptFull c (Machine.withKey k s)) = [invCipher (padBlock (p ++ [c])) (keyExpansion k)] := by
  have hfull : s.dcnt = 15 := (h.dcnt_eq_iff 15).mpr hn
  have hset : blockSet s.dbuf 15 c = padBlock (p ++ [c]) := by rw [← h.dbuf_set c, hfull]; rfl
  refine ⟨?_, ?_, ?_⟩
  · exact answering_of_needSchedule (decryptFull c) nofun (by rw [h.mode, h.noRequest]; rfl) rfl h.noRequest
      fun u _ hu _ => runDecByte_of_full (hu.trans hfull)
  · rw [decryptFull_eq]
    exact { h.withKey with dbuf := rfl, dcnt := rfl }
  · rw [decryptFull_eq, ← withKey_rk h.schedule, ← hset]
    rfl

/-- What the call does from there on, it does from before the sixteenth byte. -/
theorem decoded_of_decryptFull {c : Byte} {r : Bool} {b : Block} {q : List Block} {u : State}
    (hq : r = true → q ≠ []) (h : Decoded r (b :: q) (decryptFull c (Machine.withKey k s)) u) :
    Decoded r (heldBlocks s ++ b :: q) s u := by
  obtain ⟨hlines, hsink, herr, hclosed⟩ := h
  rw [decryptFull_eq] at hlines hsink herr
  refine ⟨?_, hsink, herr, hclosed⟩
  rw [hlines, callTokens_heldBlocks_append s b hq, ← List.append_assoc]
  rfl

/-- DEC_END with no byte left over delivers the block held back. -/
theorem answering_decEnd_of_nil (h : Decoding k [] s) :
    ∃ t, answering k .decEnd s = .next t ∧ Decoded false (heldBlocks s) s t := by
  have hexec := (exec_decEnd h.mode h.noRequest).trans (runDecEnd_of_empty ((h.dcnt_eq_iff 0).mpr rfl))
  rw [finishDecode_eq] at hexec
  refine ⟨_, answering_of_next hexec h.noRequest, ?_, rfl, by simp, callOpen_eq_false_iff.mpr ⟨h.noRequest, rfl⟩⟩
  rw [callTokens_accepted, strippedBytes_heldBlocks]
  rfl

/-- DEC_END under REJECT turns a partial block away and delivers nothing. -/
theorem answering_decEnd_of_reject (h : Decoding k p s) (hp : p ≠ []) (hl : s.lenpol = true) (b : Block) :
    ∃ t, answering k .decEnd s = .next t ∧ Decoded true (heldBlocks s ++ [b]) s t := by
  have hrest : s.dcnt ≠ 0 := fun heq => hp (List.eq_nil_of_length_eq_zero ((h.dcnt_eq_iff 0).mp heq))
  have hexec := (exec_decEnd h.mode h.noRequest).trans (runDecEnd_of_reject hrest hl)
  refine ⟨_, answering_of_next hexec h.noRequest, ?_, rfl, by simp, callOpen_eq_false_iff.mpr ⟨h.noRequest, rfl⟩⟩
  simp [callTokens_rejected_last]

/-- DEC_END under ZERO_PAD decrypts the padded rest and delivers both blocks. -/
theorem answering_decEnd_of_pad (h : Decoding k p s) (hp : p ≠ []) (hl : s.lenpol = false) :
    ∃ t, answering k .decEnd s = .next t ∧
      Decoded false (heldBlocks s ++ [invCipher (padBlock p) (keyExpansion k)]) s t := by
  have hrest : s.dcnt ≠ 0 := fun heq => hp (List.eq_nil_of_length_eq_zero ((h.dcnt_eq_iff 0).mp heq))
  have hanswer := answering_of_needSchedule (k := k)
    (fun u => finishDecode (holdBack (invCipher u.dbuf u.rk) u)) (i := .decEnd) nofun
    (by rw [h.mode, h.noRequest]; rfl) rfl h.noRequest fun u _ hu hul => runDecEnd_of_rest (hu ▸ hrest) (hul.trans hl)
  rw [finishDecode_holdBack_eq, h.withKey.dbuf, withKey_rk h.schedule] at hanswer
  refine ⟨_, hanswer, ?_, rfl, by simp [Machine.withKey], callOpen_eq_false_iff.mpr ⟨h.withKey.noRequest, rfl⟩⟩
  rw [callTokens_accepted, strippedBytes_heldBlocks_append, endSession_lines, List.append_assoc]
  rfl

theorem answering_decEnd (h : Decoding k p s) : ∃ t, answering k .decEnd s = .next t ∧
    Decoded (rejects s p) (heldBlocks s ++ plainBlocks k p) s t := by
  by_cases hp : p = []
  · subst hp
    simpa [rejects, plainBlocks, chunk_nil] using h.answering_decEnd_of_nil
  · have hlen := h.length_lt
    have hmod : p.length % 16 ≠ 0 := by
      rw [Nat.mod_eq_of_lt hlen]
      exact fun h0 => hp (List.eq_nil_of_length_eq_zero h0)
    have hrejects : rejects s p = s.lenpol := by simp [rejects, hmod]
    rw [hrejects, plainBlocks, chunk_of_length_le hp hlen.le]
    cases hl : s.lenpol with
    | true => exact h.answering_decEnd_of_reject hp hl _
    | false => exact h.answering_decEnd_of_pad hp hl

/-- The bytes of a call and its DEC_END, from any point of the call on. -/
theorem callWith_bytes (h : Decoding k p s) (c : List Byte) :
    ∃ t, callWith k (c.map .decByte ++ [.decEnd]) s = .next t ∧
      Decoded (rejects s (p ++ c)) (heldBlocks s ++ plainBlocks k (p ++ c)) s t := by
  induction c generalizing p s with
  | nil =>
    obtain ⟨t, ht, hend⟩ := h.answering_decEnd
    exact ⟨t, callWith_singleton ht, by rwa [List.append_nil]⟩
  | cons b c ih =>
    by_cases hn : p.length = 15
    · obtain ⟨ht, hnext, hheld⟩ := h.answering_of_full b hn
      obtain ⟨u, hu, hend⟩ := ih hnext
      have hgroup : plainBlocks k (p ++ b :: c) =
          invCipher (padBlock (p ++ [b])) (keyExpansion k) :: plainBlocks k c := by
        rw [List.append_cons, plainBlocks, chunk_append (by simp [hn])]
        rfl
      have hrejects : rejects s (p ++ b :: c) = rejects (decryptFull b (Machine.withKey k s)) c := by
        have hmod : (p ++ b :: c).length % 16 = c.length % 16 := by simp; omega
        rw [rejects, rejects, decryptFull_eq, hmod]
        rfl
      rw [List.nil_append, hheld] at hend
      rw [hgroup, hrejects]
      exact ⟨u, (callWith_cons ht).trans hu, decoded_of_decryptFull plainBlocks_ne_nil_of_rejects hend⟩
    · obtain ⟨ht, hnext⟩ := h.answering_of_room b hn
      obtain ⟨u, hu, hend⟩ := ih hnext
      rw [List.append_assoc] at hend
      exact ⟨u, (callWith_cons ht).trans hu, hend.lines, hend.sink, hend.err, hend.closed⟩

end Decoding

/-- Everything a decode call does. -/
theorem callWith_decodeCall (k : Block) (c : List Byte) {s : State} (hm : s.mode = .idle) (hq : s.keyReq = false) :
    ∃ t, callWith k (decodeCall c) s = .next t ∧ t.sink = s.sink ∧ callOpen t = false ∧
      t.lines = s.lines ++ callTokens (rejects s c) (plainBlocks k c) false ∧
      t.err = if rejects s c = true ∧ s.err = .none then .length else s.err := by
  have hexec : exec .decBegin s = .next (beginSession .dec s) := exec_eq_resume nofun (by rw [hm, hq]; rfl) rfl
  have hbegin : Decoding k [] (beginSession .dec s) := ⟨rfl, hq, nofun, rfl, rfl⟩
  obtain ⟨t, ht, hend⟩ := hbegin.callWith_bytes c
  exact ⟨t, (callWith_cons (answering_of_next hexec hq)).trans ht, hend.sink, hend.closed, hend.lines, hend.err⟩

/-- Settles O42: the block held back is the last one decrypted, and the buffer what the chunks leave over. -/
theorem decodeCallOutput : Obligations.DecodeCallOutput := by
  unfold Obligations.DecodeCallOutput
  intro k c s hm hq
  obtain ⟨t, ht, hsink, hclosed, hlines, herr⟩ := callWith_decodeCall k c hm hq
  refine ⟨fun haccept => ⟨t, ht, ?_, hsink, hclosed, ?_⟩, fun hl hc => ⟨t, ht, ?_, hsink, hclosed, ?_⟩⟩
  · have hno : rejects s c = false := by obtain h | h := haccept <;> simp [rejects, h]
    rw [hlines, hno, callTokens_accepted, ← closingToken_eq, List.append_assoc]
    rfl
  · have hno : rejects s c = false := by obtain h | h := haccept <;> simp [rejects, h]
    simp [herr, hno]
  · rw [hlines, show rejects s c = true by simp [rejects, hl, hc]]
    rfl
  · simp [herr, rejects, hl, hc]

end Sys2Proof.Machine
end

section
/-! The inverse pipeline undoes the forward one, stage by stage (44_inverse_cipher.md R310 to R315). -/

namespace Sys2Proof.Machine

/-! ### The stages -/

theorem invSubBytes_subBytes (s : Block) : invSubBytes (subBytes s) = s :=
  block_ext fun i => by simp [invSubBytes, subBytes]

theorem invShiftRows_shiftRows (s : Block) : invShiftRows (shiftRows s) = s := rfl

theorem addRoundKey_cancel (s k : Block) : addRoundKey (addRoundKey s k) k = s :=
  block_ext fun i => by simp [addRoundKey]

/-- A row of a matrix times a column, over GF(2^8) (40_tables_and_field.md R148). -/
def rowDot (m a : Column) : Byte := gmul m.r0 a.r0 ^^^ gmul m.r1 a.r1 ^^^ gmul m.r2 a.r2 ^^^ gmul m.r3 a.r3

theorem rowDot_colXor (m n a : Column) : rowDot (colXor m n) a = rowDot m a ^^^ rowDot n a := by
  simp only [rowDot, colXor, gmul_xor_left]
  ac_rfl

theorem rowDot_colMap_gmul (c : Byte) (m a : Column) : rowDot (colMap (gmul c) m) a = gmul c (rowDot m a) := by
  simp only [rowDot, colMap, gmul_xor_right, gmul_assoc]

/-- A row of the product of two matrices: the row `n` of the first times the rows `m0` to `m3` of the second. -/
def rowTimes (n m0 m1 m2 m3 : Column) : Column :=
  colXor (colXor (colXor (colMap (gmul n.r0) m0) (colMap (gmul n.r1) m1)) (colMap (gmul n.r2) m2))
    (colMap (gmul n.r3) m3)

theorem rowDot_rowTimes (n m0 m1 m2 m3 a : Column) :
    rowDot n ⟨rowDot m0 a, rowDot m1 a, rowDot m2 a, rowDot m3 a⟩ = rowDot (rowTimes n m0 m1 m2 m3) a := by
  simp only [rowTimes, rowDot_colXor, rowDot_colMap_gmul]
  rfl

theorem mixColumn_eq (a : Column) : mixColumn a =
    ⟨rowDot ⟨0x02, 0x03, 0x01, 0x01⟩ a, rowDot ⟨0x01, 0x02, 0x03, 0x01⟩ a, rowDot ⟨0x01, 0x01, 0x02, 0x03⟩ a,
      rowDot ⟨0x03, 0x01, 0x01, 0x02⟩ a⟩ := by
  have htimes3 (x : Byte) : times3 x = gmul 0x03 x := by
    rw [times3, xtime_eq_gmul, show (0x03 : Byte) = 0x02 ^^^ 0x01 by decide, gmul_xor_left, gmul_one_left]
  simp only [mixColumn, rowDot, htimes3, xtime_eq_gmul, gmul_one_left]

theorem invMixColumn_eq (a : Column) : invMixColumn a =
    ⟨rowDot ⟨0x0E, 0x0B, 0x0D, 0x09⟩ a, rowDot ⟨0x09, 0x0E, 0x0B, 0x0D⟩ a, rowDot ⟨0x0D, 0x09, 0x0E, 0x0B⟩ a,
      rowDot ⟨0x0B, 0x0D, 0x09, 0x0E⟩ a⟩ := rfl

/-- The product of MI and MF is the unit matrix. -/
theorem invMixColumn_mixColumn (a : Column) : invMixColumn (mixColumn a) = a := by
  rw [invMixColumn_eq, mixColumn_eq]
  simp only [rowDot_rowTimes]
  rw [show rowTimes ⟨0x0E, 0x0B, 0x0D, 0x09⟩ _ _ _ _ = ⟨0x01, 0x00, 0x00, 0x00⟩ by decide,
    show rowTimes ⟨0x09, 0x0E, 0x0B, 0x0D⟩ _ _ _ _ = ⟨0x00, 0x01, 0x00, 0x00⟩ by decide,
    show rowTimes ⟨0x0D, 0x09, 0x0E, 0x0B⟩ _ _ _ _ = ⟨0x00, 0x00, 0x01, 0x00⟩ by decide,
    show rowTimes ⟨0x0B, 0x0D, 0x09, 0x0E⟩ _ _ _ _ = ⟨0x00, 0x00, 0x00, 0x01⟩ by decide]
  simp only [rowDot, gmul_one_left, gmul_zero_left]
  simp

theorem invMixColumns_mixColumns (s : Block) : invMixColumns (mixColumns s) = s := by
  simp [invMixColumns, mixColumns, invMixColumn_mixColumn]

/-! ### The rounds -/

/-- The last two stages before a round key is added are undone by the first two of an inverse round. -/
theorem invRound_fullRound (s k : Block) :
    invRound (shiftRows (subBytes (fullRound s k))) k = shiftRows (subBytes s) := by
  rw [invRound, invShiftRows_shiftRows, invSubBytes_subBytes, fullRound, addRoundKey_cancel, invMixColumns_mixColumns]

theorem foldl_invRound_fullRound (ks : List Block) (s : Block) :
    ks.reverse.foldl invRound (shiftRows (subBytes (ks.foldl fullRound s))) = shiftRows (subBytes s) := by
  induction ks generalizing s with
  | nil => rfl
  | cons k ks ih => rw [List.reverse_cons, List.foldl_concat, List.foldl_cons, ih, invRound_fullRound]

/-- Decrypting a ciphertext block with its key gives the plaintext block back (R315). -/
theorem invCipher_cipher (b : Block) (rk : RoundKeys) : invCipher (cipher b rk) rk = b := by
  rw [invCipher, cipher, addRoundKey_cancel, foldl_invRound_fullRound, invShiftRows_shiftRows, invSubBytes_subBytes,
    addRoundKey_cancel]

end Sys2Proof.Machine
end

section
/-! Encoding lines and decoding them with the same key gives them back (41_stream_adapter.md R186, R193, R198). -/

namespace Sys2Proof.Machine

/-! ### The padding that StripZ removes (R193) -/

/-- The padding is removed. -/
theorem stripZ_append_zeros (p : List Byte) (n : Nat) : stripZ (p ++ List.replicate n 0) = stripZ p := by
  induction p with
  | nil =>
    induction n with
    | zero => rfl
    | succ n ih => exact if_pos ⟨ih, rfl⟩
  | cons x p ih => rw [List.cons_append, stripZ, stripZ, ih]

theorem stripZ_eq_self {p : List Byte} (hz : p.getLast? ≠ some 0) : stripZ p = p :=
  (stripZ_prefix p).eq_of_length_le (prefix_stripZ List.prefix_rfl hz).length_le

theorem blockBytes_padBlock {p : List Byte} (hlen : p.length ≤ 16) :
    blockBytes (padBlock p) = p ++ List.replicate (16 - p.length) 0 := by
  refine List.ext_getElem (by simp; omega) fun i hi _ => ?_
  have hbyte := blockBytes_getElem (padBlock p) ⟨i, hi⟩
  rw [blockGet_padBlock, List.getElem?_eq_getElem hi, Option.some.injEq] at hbyte
  rw [hbyte, List.getElem_append]
  split
  next hlt => exact List.getD_eq_getElem p 0 hlt
  next hge => rw [List.getD_eq_default p 0 (not_lt.mp hge), List.getElem_replicate]

/-- The bytes of a text that does not end in 0x00 come back from its padded groups. -/
theorem strippedBytes_chunk {e : List Byte} (hz : e.getLast? ≠ some 0) : strippedBytes (chunk e) = e := by
  by_cases hlen : e.length ≤ 16
  · by_cases he : e = []
    · rw [he]; rfl
    · rw [chunk_of_length_le he hlen, strippedBytes, blockBytes_padBlock hlen, stripZ_append_zeros, stripZ_eq_self hz]
  · have ih := strippedBytes_chunk (e := e.drop 16) (by rwa [List.getLast?_drop, if_neg hlen])
    have hne : chunk (e.drop 16) ≠ [] := by rw [Ne, chunk_eq_nil_iff, List.drop_eq_nil_iff]; exact hlen
    have hgroup : chunk e = padBlock (e.take 16) :: chunk (e.drop 16) :=
      chunk_of_ne_nil fun he => by simp [he] at hlen
    rw [hgroup]
    cases hc : chunk (e.drop 16) with
    | nil => exact absurd hc hne
    | cons b q =>
      have htake : (e.take 16).length = 16 := List.length_take_of_le (by omega)
      rw [strippedBytes, ← hc, ih, blockBytes_padBlock htake.le, htake, Nat.sub_self, List.replicate_zero,
        List.append_nil, List.take_append_drop]
termination_by e.length
decreasing_by simp; omega

/-! ### The ciphertext of whole blocks -/

theorem chunk_flatMap_blockBytes (p : List Block) : chunk (p.flatMap blockBytes) = p := by
  induction p with
  | nil => rfl
  | cons b p ih => rw [List.flatMap_cons, chunk_append (blockBytes_length b), ih, padBlock_blockBytes]

theorem length_flatMap_blockBytes (p : List Block) : (p.flatMap blockBytes).length = 16 * p.length := by
  induction p with
  | nil => rfl
  | cons b p ih => rw [List.flatMap_cons, List.length_append, ih, blockBytes_length, List.length_cons]; omega

theorem cipherBytes_eq (k : Block) (p : List Block) :
    cipherBytes k p = (p.map fun b => cipher b (keyExpansion k)).flatMap blockBytes := by
  rw [cipherBytes, List.flatMap_map]

/-- Every ciphertext ends with a whole block, so none is turned away. -/
theorem rejects_cipherBytes (s : State) (k : Block) (p : List Block) : rejects s (cipherBytes k p) = false := by
  rw [rejects, cipherBytes_eq, length_flatMap_blockBytes]
  simp

/-- Decrypting a ciphertext gives the plaintext blocks back. -/
theorem plainBlocks_cipherBytes (k : Block) (p : List Block) : plainBlocks k (cipherBytes k p) = p := by
  rw [plainBlocks, cipherBytes_eq, chunk_flatMap_blockBytes, List.map_map]
  exact (List.map_congr_left fun b _ => invCipher_cipher b _).trans (List.map_id p)

/-! ### Lines -/

/-- The bytes of a text of lines, each ended by 0x0A. -/
def linesText (ls : List (List Byte)) : List Byte := ls.flatMap fun l => l ++ [newline]

theorem map_tokenOf_linesText {ls : List (List Byte)} (h : ∀ l ∈ ls, (0x0A : Byte) ∉ l) :
    (linesText ls).map tokenOf = ls.flatMap lineTokens := by
  rw [linesText, List.map_flatMap]
  refine List.flatMap_congr fun l hl => ?_
  have hcontent : l.map tokenOf = l.map .lb :=
    List.map_congr_left fun x hx => if_neg fun hnl : x = 0x0A => h l hl (hnl ▸ hx)
  rw [List.map_append, hcontent]
  rfl

/-- A text of lines is empty or ends in 0x0A. -/
theorem linesText_eq_nil_or_getLast? (ls : List (List Byte)) :
    linesText ls = [] ∨ (linesText ls).getLast? = some newline := by
  obtain rfl | ⟨ls, l, rfl⟩ := ls.eq_nil_or_concat
  · exact .inl rfl
  · exact .inr (by simp [linesText])

/-- Settles O43: the text of the lines does not end in 0x00, so StripZ takes the padding and nothing else, and it ends
in 0x0A, so the splitter leaves no line open. -/
theorem linesRoundTrip : Obligations.LinesRoundTrip := by
  unfold Obligations.LinesRoundTrip
  intro k ls s hls hm hq
  have hpushed : (ls.flatMap fun l => l.map Instr.encByte ++ [.encEol]).map pushedByte = (linesText ls).map some := by
    simp [linesText, List.map_flatMap, pushedByte, Function.comp_def]
  obtain ⟨t, ht, hend⟩ := callWith_encode k hpushed hm hq
  obtain ⟨htq, htm⟩ := callOpen_eq_false_iff.mp hend.closed
  obtain ⟨u, hu, husink, huclosed, hulines, huerr⟩ :=
    callWith_decodeCall k (cipherBytes k (chunk (linesText ls))) htm htq
  refine ⟨t, _, u, ht, hend.sink, hu, ?_, husink, huclosed, ?_⟩
  · have htext := linesText_eq_nil_or_getLast? ls
    have hz : (linesText ls).getLast? ≠ some 0 := by obtain h | h := htext <;> simp [h, newline]
    have hclosing : closingToken (linesText ls) = [] := if_pos htext
    rw [hulines, hend.lines, rejects_cipherBytes, plainBlocks_cipherBytes, callTokens_accepted,
      strippedBytes_chunk hz, ← closingToken_eq, map_tokenOf_linesText hls, hclosing, List.append_nil]
  · rw [huerr, rejects_cipherBytes, hend.err]
    rfl

end Sys2Proof.Machine
end

section
/-! The words of the key schedule (42_key_schedule.md R230, R231). -/

namespace Sys2Proof.Machine

/-- Word `4r + c` is column `c` of round key `r`. -/
theorem scheduleWord_eq (k : Block) (r : Nat) (c : Fin 4) :
    scheduleWord k (4 * r + c.val) = blockCol (roundKeyOf k r) c := by
  have hdiv : (4 * r + c.val) / 4 = r := by omega
  have hmod : (4 * r + c.val) % 4 = c.val := by omega
  simp only [scheduleWord, hdiv, hmod]

/-- Each column of a round key comes from the column before it, the first one through RotWord, SubWord and RCON. -/
theorem scheduleWord_of_ge_four (k : Block) {i : Nat} (hi : 4 ≤ i) :
    scheduleWord k i = colXor (scheduleWord k (i - 4))
      (if i % 4 = 0 then colXor (subWord (rotWord (scheduleWord k (i - 1)))) ⟨rcon (i / 4), 0x00, 0x00, 0x00⟩
        else scheduleWord k (i - 1)) := by
  obtain ⟨r, c, rfl⟩ : ∃ (r : Nat) (c : Fin 4), i = 4 * (r + 1) + c.val :=
    ⟨i / 4 - 1, ⟨i % 4, Nat.mod_lt _ (by decide)⟩, by dsimp only; omega⟩
  have hback : 4 * (r + 1) + c.val - 4 = 4 * r + c.val := by omega
  rw [hback, scheduleWord_eq, scheduleWord_eq]
  cases c using Fin.cases with
  | zero =>
    have hprev : 4 * (r + 1) + (0 : Fin 4).val - 1 = 4 * r + (3 : Fin 4).val := by simp; omega
    have hmod : (4 * (r + 1) + (0 : Fin 4).val) % 4 = 0 := by simp
    have hdiv : (4 * (r + 1) + (0 : Fin 4).val) / 4 = r + 1 := by simp
    rw [if_pos hmod, hdiv, hprev, scheduleWord_eq]
    rfl
  | succ d =>
    have hprev : 4 * (r + 1) + d.succ.val - 1 = 4 * (r + 1) + d.castSucc.val := by simp
    have hmod : (4 * (r + 1) + d.succ.val) % 4 ≠ 0 := by simp; omega
    rw [if_neg hmod, hprev, scheduleWord_eq]
    fin_cases d <;> rfl

theorem roundKeyAt_keyExpansion (k : Block) {r : Nat} (hr : r ≤ 10) :
    roundKeyAt (keyExpansion k) r = some (roundKeyOf k r) := by
  interval_cases r <;> rfl

/-- There are the round keys RK[0] to RK[10] (10_state.md R41). -/
theorem exists_roundKeyAt (rk : RoundKeys) {r : Nat} (hr : r ≤ 10) : ∃ k, roundKeyAt rk r = some k := by
  interval_cases r <;> exact ⟨_, rfl⟩

/-- Settles O18: word `4(r+1) + c` is a column of the round key that follows round key `r`. -/
theorem keyScheduleRecurrence : Obligations.KeyScheduleRecurrence := by
  unfold Obligations.KeyScheduleRecurrence
  refine fun k => ⟨fun i => ?_, fun i hi _ => scheduleWord_of_ge_four k hi, fun r hr => ?_⟩
  · simpa [roundKeyOf] using scheduleWord_eq k 0 i
  · exact ⟨roundKeyOf k r, roundKeyAt_keyExpansion k hr, fun c => (scheduleWord_eq k r c).symm⟩

end Sys2Proof.Machine
end

section
/-! The key request (42_key_schedule.md R240) and the key commands, branch by branch (R241 to R245). -/

namespace Sys2Proof.Machine

/-! ### The key request (42_key_schedule.md R240) -/

theorem usesSchedule_of_needsBlock {i : Instr} {s : State} (h : needsBlock i s = true) : usesSchedule i = true := by
  cases i with
  | encBlock | decBlock | stAddrk | encByte | encEol | encEnd | decByte | decEnd => rfl
  | _ => cases h

theorem runStAddrk_of_le {r : Byte} (hr : r.toNat ≤ 10) (s : State) :
    ∃ t, runStAddrk r s = needSchedule (.stAddrk r) s (.next t) := by
  obtain ⟨k, hk⟩ := exists_roundKeyAt s.rk hr
  exact ⟨setStage (addRoundKey s.st k) s, by rw [runStAddrk, hk]⟩

/-- On a block-producing path the rule of a command asks for the schedule before anything else. -/
theorem resume_eq_needSchedule {i : Instr} {s : State} (ho : operandOk i = true) (hn : needsBlock i s = true) :
    ∃ t, resume i s = needSchedule i s (.next t) := by
  cases i with
  | encBlock | decBlock => exact ⟨_, rfl⟩
  | stAddrk r => exact runStAddrk_of_le (of_decide_eq_true ho) s
  | encByte | encEol => exact ⟨_, push_of_full (of_decide_eq_true hn)⟩
  | encEnd => exact ⟨_, runEncEnd_of_rest (of_decide_eq_true hn)⟩
  | decByte => exact ⟨_, runDecByte_of_full (of_decide_eq_true hn)⟩
  | decEnd =>
    obtain ⟨hd, hl⟩ : s.dcnt ≠ 0 ∧ s.lenpol = false := by simpa [needsBlock] using hn
    exact ⟨_, runDecEnd_of_rest hd hl⟩
  | _ => cases hn

/-! ### The key commands (42_key_schedule.md R241 to R245) -/

/-- PEND holds the word of a command, so the resumption runs that command's rule (R242). -/
theorem resumeWord_of_decode {w : Word} {i : Instr} (h : decode w = .instr i) (s : State) :
    resumeWord w s = resume i s := by
  rw [resumeWord, instrOf_of_decode h]

theorem runKeyExpand_of_noRequest {s : State} (hq : s.keyReq = false) : runKeyExpand s = .next (loadSchedule s) :=
  if_neg (by simp [hq])

theorem runKeyExpand_of_request {s : State} {i : Instr} (hq : s.keyReq = true) (hd : decode s.pend = .instr i) :
    runKeyExpand s = resume i (dropRequest (loadSchedule s)) :=
  (if_pos hq).trans (resumeWord_of_decode hd _)

theorem runKeyFail_of_idle {s : State} (hm : s.mode = .idle) :
    runKeyFail s = .next (clearKeyin (dropRequest (raise .key s.pend s))) :=
  congrArg _ (if_pos hm)

theorem runKeyFail_of_session {s : State} (hm : s.mode ≠ .idle) :
    runKeyFail s = .next (endSession (clearKeyin (dropRequest (raise .key s.pend s)))) :=
  congrArg _ (if_neg hm)

theorem exec_keyFail {s : State} (hq : s.keyReq = true) : exec .keyFail s = runKeyFail s :=
  exec_eq_resume nofun hq rfl

theorem exec_rkRead {r : Byte} {s : State} (hl : legal (.rkRead r) s.mode s.keyReq = true) (hr : r.toNat ≤ 10) :
    exec (.rkRead r) s = runRkRead r s :=
  exec_eq_resume (i := .rkRead r) nofun hl (decide_eq_true hr)

theorem runRkRead_of_roundKeyAt {r : Byte} {s : State} {k : Block} (hk : roundKeyAt s.rk r.toNat = some k) :
    runRkRead r s = .next (showBlock k s) := by
  rw [runRkRead, hk]

/-! ### The obligations -/

/-- Settles O14: what waits for a key passed its checks in the mode that still holds, so running its rule and running
it with the checks are the same. -/
theorem keyExpandLoadsAndResumes : Obligations.KeyExpandLoadsAndResumes := by
  unfold Obligations.KeyExpandLoadsAndResumes
  refine ⟨fun s hm hq => ?_, fun s i hq hd hw => ?_⟩
  · have hlegal : legal .keyExpand s.mode s.keyReq = true := by rw [hm, hq]; rfl
    exact (checked_of_passes hlegal rfl).trans (runKeyExpand_of_noRequest hq)
  · have hlegal : legal .keyExpand s.mode s.keyReq = true := by rw [hq]; rfl
    obtain ⟨j, hj, hl, ho, hu⟩ := waitsForKey_iff.mp hw
    obtain rfl : i = j := Decoded.instr.inj (hd.symm.trans hj)
    have hi : i ≠ .keyExpand := by rintro rfl; cases hu
    calc exec .keyExpand s
      _ = runKeyExpand s := checked_of_passes hlegal rfl
      _ = resume i (dropRequest (loadSchedule s)) := runKeyExpand_of_request hq hd
      _ = exec i (dropRequest (loadSchedule s)) := (exec_eq_resume hi hl ho).symm

/-- Settles O20: the rule asks for the schedule first, and with one no rule leaves a request behind. -/
theorem keyRequestChangesOnlyTheRequest : Obligations.KeyRequestChangesOnlyTheRequest := by
  unfold Obligations.KeyRequestChangesOnlyTheRequest
  intro i s hp ho hn
  have hl := (legal_iff_place i s).mpr hp
  have hu := usesSchedule_of_needsBlock hn
  have hi : i ≠ .keyExpand := by rintro rfl; cases hu
  obtain ⟨t, ht⟩ := resume_eq_needSchedule ho hn
  rw [exec_eq_resume hi hl ho]
  refine ⟨fun hk => ht.trans (needSchedule_of_absent hk), fun hk => ?_⟩
  have hrun : resume i s = .next t := ht.trans (needSchedule_of_valid hk)
  exact ⟨t, hrun, (runsTo_of_resume hrun).keyReq_eq_false hk (keyReq_eq_false_of_usesSchedule hu hl)⟩

/-- Settles O60: by what the three commands can answer, a failed check or their rule. -/
theorem keyCommandFrame : Obligations.KeyCommandFrame := by
  unfold Obligations.KeyCommandFrame
  refine ⟨fun s t h => ?_, fun s t hq h => ?_, fun s t h => ?_⟩
  · obtain ⟨-, -, hrun⟩ | ⟨-, rfl⟩ | ⟨-, rfl⟩ := checked_next h
    · cases hrun; rfl
    · rfl
    · rfl
  · obtain ⟨-, -, hrun⟩ | ⟨-, rfl⟩ | ⟨-, rfl⟩ := checked_next h
    · rw [runKeyExpand_of_noRequest hq] at hrun
      cases hrun; rfl
    · rfl
    · rfl
  · obtain ⟨-, -, hrun⟩ | ⟨-, rfl⟩ | ⟨-, rfl⟩ := checked_next h
    · by_cases hm : s.mode = .idle
      · rw [runKeyFail_of_idle hm] at hrun
        cases hrun; rfl
      · rw [runKeyFail_of_session hm] at hrun
        cases hrun; rfl
    · rfl
    · rfl

/-- Settles O15: the request makes KEY_FAIL legal, and MODE decides whether there is a session to end. -/
theorem keyFailEndsTheCall : Obligations.KeyFailEndsTheCall := by
  unfold Obligations.KeyFailEndsTheCall
  intro s hq
  exact ⟨fun hm => (exec_keyFail hq).trans (runKeyFail_of_idle hm),
    fun hm => (exec_keyFail hq).trans (runKeyFail_of_session hm)⟩

/-- Settles O16: in IDLE with no request KEY_CLEAR is legal and runs its rule. -/
theorem keyClearDestroysSchedule : Obligations.KeyClearDestroysSchedule := by
  unfold Obligations.KeyClearDestroysSchedule
  intro s hm hq
  exact exec_eq_resume nofun (by rw [hm, hq]; rfl) rfl

/-- Settles O17: an index of at most 10 passes the operand check and names a round key, a greater one fails it. -/
theorem rkReadShowsRoundKey : Obligations.RkReadShowsRoundKey := by
  unfold Obligations.RkReadShowsRoundKey
  intro r s hm hq
  have hl : legal (.rkRead r) s.mode s.keyReq = true := by rw [hm, hq]; rfl
  refine ⟨fun hr => ?_, fun hr => exec_of_operand ((legal_iff_place _ s).mp hl) rfl hr⟩
  obtain ⟨k, hk⟩ := exists_roundKeyAt s.rk hr
  exact ⟨k, hk, (exec_rkRead hl hr).trans (runRkRead_of_roundKeyAt hk)⟩

end Sys2Proof.Machine
end

section
/-! The stages seen byte by byte and as matrix operations (43_forward_cipher.md R270 to R274; 44_inverse_cipher.md R310
to R314). -/

namespace Sys2Proof.Machine

/-! ### ShiftRows (43_forward_cipher.md R271; 44_inverse_cipher.md R311) -/

theorem blockAt_shiftRows (s : Block) (r c : Fin 4) : blockAt (shiftRows s) r c = blockAt s r (c + r) := by
  fin_cases r <;> fin_cases c <;> rfl

theorem blockAt_invShiftRows (s : Block) (r c : Fin 4) : blockAt (invShiftRows s) r c = blockAt s r (c - r) := by
  fin_cases r <;> fin_cases c <;> rfl

/-! ### MixColumns (43_forward_cipher.md R272; 44_inverse_cipher.md R312) -/

theorem gmul_three_left (a : Byte) : gmul 0x03 a = xtime a ^^^ a := by
  rw [show (0x03 : Byte) = 0x02 ^^^ 0x01 by decide, gmul_xor_left, ← xtime_eq_gmul, gmul_one_left]

theorem blockAt_mixColumns (s : Block) (r c : Fin 4) :
    blockAt (mixColumns s) r c = colGet (mixColumn (blockCol s c)) r := by
  fin_cases c <;> rfl

theorem blockAt_invMixColumns (s : Block) (r c : Fin 4) :
    blockAt (invMixColumns s) r c = colGet (invMixColumn (blockCol s c)) r := by
  fin_cases c <;> rfl

/-- Row `r` of a 4×4 matrix. -/
def matrixRow (m : Fin 4 → Fin 4 → Byte) (r : Fin 4) : Column := ⟨m r 0, m r 1, m r 2, m r 3⟩

theorem matrixAt_eq_rowDot (m : Fin 4 → Fin 4 → Byte) (s : Block) (r c : Fin 4) :
    matrixAt m s r c = rowDot (matrixRow m r) (blockCol s c) := rfl

theorem colGet_mixColumn (a : Column) (r : Fin 4) : colGet (mixColumn a) r = rowDot (matrixRow mdsForward r) a := by
  rw [mixColumn_eq]
  fin_cases r <;> rfl

theorem colGet_invMixColumn (a : Column) (r : Fin 4) :
    colGet (invMixColumn a) r = rowDot (matrixRow mdsInverse r) a := by
  rw [invMixColumn_eq]
  fin_cases r <;> rfl

/-! ### The obligations -/

/-- Settles O26: a column of the answer is the column times the rows of MF, or of MI. -/
theorem mixColumnsAreMatrixProducts : Obligations.MixColumnsAreMatrixProducts := by
  unfold Obligations.MixColumnsAreMatrixProducts
  refine ⟨fun a => ⟨(xtime_eq_gmul a).symm, gmul_three_left a⟩, fun s r c => ⟨?_, ?_⟩⟩
  · rw [blockAt_mixColumns, colGet_mixColumn, matrixAt_eq_rowDot]
  · rw [blockAt_invMixColumns, colGet_invMixColumn, matrixAt_eq_rowDot]

/-- Settles O24: the three stages map or combine the bytes one by one. -/
theorem bytewiseStages : Obligations.BytewiseStages := by
  unfold Obligations.BytewiseStages
  exact fun s k i =>
    ⟨blockGet_map sbox s i, blockGet_map invSbox s i, blockGet_xor s k i, addRoundKey_cancel s k⟩

/-- Settles O25: the matrix form place by place; the byte orders are the definitions read column by column. -/
theorem shiftRowsRotateRows : Obligations.ShiftRowsRotateRows := by
  unfold Obligations.ShiftRowsRotateRows
  exact fun s => ⟨fun r c => ⟨blockAt_shiftRows s r c, blockAt_invShiftRows s r c⟩, rfl, rfl⟩

/-- Settles O29: the nine inner round keys, unrolled. -/
theorem pipelinesFollowTheirRounds : Obligations.PipelinesFollowTheirRounds := by
  unfold Obligations.PipelinesFollowTheirRounds
  exact fun _ _ => ⟨rfl, rfl⟩

end Sys2Proof.Machine
end

section
/-! The commands that replace ST by one block and copy it to DOUT: the stage commands, ENC_BLOCK and DEC_BLOCK
(43_forward_cipher.md R275, R280 to R285; 44_inverse_cipher.md R320 to R323). -/

namespace Sys2Proof.Machine

variable {i : Instr} {s t : State} {b : Block}

/-! ### What they run (43_forward_cipher.md R275) -/

/-- The rule of each of these commands puts its block into ST and DOUT, after the key request where it uses RK. -/
theorem resume_of_stageBlock (hb : stageBlock i s = some b) :
    resume i s = if usesSchedule i then needSchedule i s (.next (setStage b s)) else .next (setStage b s) := by
  cases i with
  | encBlock | decBlock => cases hb; rfl
  | stAddrk r =>
    obtain ⟨k, hk, rfl⟩ := Option.map_eq_some_iff.mp hb
    change runStAddrk r s = needSchedule _ s _
    rw [runStAddrk, hk]
  | stLoad | stSubbytes | stShiftrows | stMixcolumns | stInvsubbytes | stInvshiftrows | stInvmixcolumns =>
    cases hb; rfl
  | _ => cases hb

theorem ne_keyExpand_of_stageBlock (hb : stageBlock i s = some b) : i ≠ .keyExpand := fun hi => by
  subst hi; cases hb

theorem stageBlock_stAddrk {r : Byte} {k : Block} (hk : roundKeyAt s.rk r.toNat = some k) :
    stageBlock (.stAddrk r) s = some (addRoundKey s.st k) := by
  rw [stageBlock, hk, Option.map_some]

theorem placeOf_mem_legalPlaces (hm : s.mode = .idle) (hq : s.keyReq = false) (hi : legalPlaces i = [.idle]) :
    placeOf s ∈ legalPlaces i := by
  simp [placeOf, hm, hq, hi]

theorem legalPlaces_of_stageBlock (hb : stageBlock i s = some b) : legalPlaces i = [.idle] := by
  cases i with
  | encBlock | decBlock | stAddrk | stLoad | stSubbytes | stShiftrows | stMixcolumns | stInvsubbytes | stInvshiftrows
  | stInvmixcolumns => rfl
  | _ => cases hb

/-- In IDLE with no request, and with a schedule where the command uses it, the block reaches ST and DOUT. -/
theorem exec_of_stageBlock (hm : s.mode = .idle) (hq : s.keyReq = false) (ho : operandOk i = true)
    (hb : stageBlock i s = some b) (hk : usesSchedule i = true → s.ksv = true) :
    exec i s = .next (setStage b s) := by
  have hl : legal i s.mode s.keyReq = true :=
    (legal_iff_place i s).mpr (placeOf_mem_legalPlaces hm hq (legalPlaces_of_stageBlock hb))
  rw [exec_eq_resume (ne_keyExpand_of_stageBlock hb) hl ho, resume_of_stageBlock hb]
  split
  next hu => exact needSchedule_of_valid (hk hu)
  next => rfl

/-! ### What they can answer -/

/-- Every answer of a command whose legal operands give a block: the block in ST and DOUT, a key request, or an
error. -/
theorem exec_next_of_stage (hi : i ≠ .keyExpand) (hstage : operandOk i = true → ∃ b, stageBlock i s = some b)
    (h : exec i s = .next t) :
    (∃ b, t = setStage b s) ∨ (usesSchedule i = true ∧ t = requestKey (encode i) s) ∨
      ∃ e, t = raise e (encode i) s := by
  rw [exec_eq_checked_resume hi] at h
  obtain ⟨-, ho, hrun⟩ | ⟨-, ht⟩ | ⟨-, ht⟩ := checked_next h
  · obtain ⟨b, hb⟩ := hstage ho
    rw [resume_of_stageBlock hb] at hrun
    split at hrun
    next hu =>
      obtain ⟨-, hrun⟩ | ⟨-, ht⟩ := needSchedule_next hrun
      · cases hrun; exact .inl ⟨b, rfl⟩
      · exact .inr (.inl ⟨hu, ht⟩)
    next => cases hrun; exact .inl ⟨b, rfl⟩
  · exact .inr (.inr ⟨_, ht⟩)
  · exact .inr (.inr ⟨_, ht⟩)

end Sys2Proof.Machine
end

section
/-! The obligations of the stage commands, ENC_BLOCK, DEC_BLOCK and RK_READ. -/

namespace Sys2Proof.Machine

/-- Settles O56: a keyless stage command asks for no key, so its answer is its block or an error; RK_READ with an index
of at most 10 shows a round key. -/
theorem stageAndReadFrame : Obligations.StageAndReadFrame := by
  unfold Obligations.StageAndReadFrame
  refine ⟨fun i s t hi h => ?_, fun r s t h => ?_⟩
  · obtain ⟨hu, hne, hstage⟩ :
        usesSchedule i = false ∧ i ≠ .keyExpand ∧ ∃ b, stageBlock i s = some b := by
      simp only [List.mem_cons, List.not_mem_nil, or_false] at hi
      obtain rfl | rfl | rfl | rfl | rfl | rfl | rfl := hi <;> exact ⟨rfl, nofun, _, rfl⟩
    obtain ⟨b, rfl⟩ | ⟨hu', -⟩ | ⟨e, rfl⟩ := exec_next_of_stage hne (fun _ => hstage) h
    · exact ⟨rfl, .inr rfl⟩
    · simp [hu] at hu'
    · exact ⟨rfl, .inl rfl⟩
  · obtain ⟨-, ho, hrun⟩ | ⟨-, rfl⟩ | ⟨-, rfl⟩ := checked_next h
    · have hr : r.toNat ≤ 10 := of_decide_eq_true ho
      obtain ⟨k, hk⟩ := exists_roundKeyAt s.rk hr
      rw [runRkRead_of_roundKeyAt hk] at hrun
      cases hrun; rfl
    · rfl
    · rfl

/-- Settles O57: the block in ST and DOUT, the key request alone, or an error. -/
theorem blockCommandFrame : Obligations.BlockCommandFrame := by
  unfold Obligations.BlockCommandFrame
  intro i s t hi h
  obtain ⟨hne, hstage⟩ : i ≠ .keyExpand ∧ (operandOk i = true → ∃ b, stageBlock i s = some b) := by
    obtain rfl | rfl | ⟨r, rfl⟩ := hi
    · exact ⟨nofun, fun _ => ⟨_, rfl⟩⟩
    · exact ⟨nofun, fun _ => ⟨_, rfl⟩⟩
    · refine ⟨nofun, fun ho => ?_⟩
      obtain ⟨k, hk⟩ := exists_roundKeyAt s.rk (of_decide_eq_true ho)
      exact ⟨_, stageBlock_stAddrk hk⟩
  obtain ⟨b, rfl⟩ | ⟨-, rfl⟩ | ⟨e, rfl⟩ := exec_next_of_stage hne hstage h
  · exact ⟨rfl, fun hreq => absurd rfl hreq⟩
  · exact ⟨rfl, fun _ => rfl⟩
  · exact ⟨rfl, fun hreq => absurd rfl hreq⟩

/-- Settles O21: with a schedule the pipeline's block, without one the key request of O20. -/
theorem blockCommandsTransformDin : Obligations.BlockCommandsTransformDin := by
  unfold Obligations.BlockCommandsTransformDin
  intro s hm hq
  refine ⟨fun hk => ⟨?_, ?_⟩, fun hk => ⟨?_, ?_⟩⟩
  · exact exec_of_stageBlock hm hq rfl rfl fun _ => hk
  · exact exec_of_stageBlock hm hq rfl rfl fun _ => hk
  · exact (keyRequestChangesOnlyTheRequest .encBlock s (placeOf_mem_legalPlaces hm hq rfl) rfl rfl).1 hk
  · exact (keyRequestChangesOnlyTheRequest .decBlock s (placeOf_mem_legalPlaces hm hq rfl) rfl rfl).1 hk

/-- Settles O22: in IDLE with no request each of the seven puts its block into ST and DOUT. -/
theorem stageCommandsTransformSt : Obligations.StageCommandsTransformSt := by
  unfold Obligations.StageCommandsTransformSt
  intro s hm hq
  have hstage {i : Instr} {b : Block} (hb : stageBlock i s = some b) (hu : usesSchedule i = false)
      (ho : operandOk i = true) : exec i s = .next { s with st := b, dout := b2w b } :=
    exec_of_stageBlock hm hq ho hb (by simp [hu])
  exact ⟨hstage rfl rfl rfl, hstage rfl rfl rfl, hstage rfl rfl rfl, hstage rfl rfl rfl, hstage rfl rfl rfl,
    hstage rfl rfl rfl, hstage rfl rfl rfl⟩

/-- Settles O23: an index above 10 fails the operand check; any other names a round key, and the schedule decides
between the key request of O20 and the sum. -/
theorem stAddrkAddsRoundKey : Obligations.StAddrkAddsRoundKey := by
  unfold Obligations.StAddrkAddsRoundKey
  intro r s hm hq
  have hp : placeOf s ∈ legalPlaces (.stAddrk r) := placeOf_mem_legalPlaces hm hq rfl
  refine ⟨fun hr => exec_of_operand hp rfl hr, fun hr hk => ?_, fun hr hk => ?_⟩
  · exact (keyRequestChangesOnlyTheRequest (.stAddrk r) s hp (decide_eq_true hr) rfl).1 hk
  · obtain ⟨k, hrk⟩ := exists_roundKeyAt s.rk hr
    exact ⟨k, hrk, exec_of_stageBlock hm hq (decide_eq_true hr) (stageBlock_stAddrk hrk) fun _ => hk⟩

end Sys2Proof.Machine
end

section
/-! The inverse pipeline and the forward one undo each other in both orders, and with them ENC_BLOCK and DEC_BLOCK
(44_inverse_cipher.md R310 to R315, R323). -/

namespace Sys2Proof.Machine

/-! ### Blocks are finitely many -/

theorem blockGet_injective : Function.Injective blockGet := fun _ _ h => block_ext (congrFun h)

/-- Blocks are finitely many, so a function on them that another one undoes also undoes that other. -/
theorem rightInverse_of_leftInverse {f g : Block → Block} (h : Function.LeftInverse g f) :
    Function.RightInverse g f :=
  have : Finite Block := .of_injective blockGet blockGet_injective
  h.rightInverse_of_surjective (Finite.surjective_of_injective h.injective)

/-! ### The other order of each pair -/

theorem subBytes_invSubBytes (s : Block) : subBytes (invSubBytes s) = s :=
  block_ext fun i => by simp [invSubBytes, subBytes]

theorem shiftRows_invShiftRows (s : Block) : shiftRows (invShiftRows s) = s := rfl

theorem mixColumns_invMixColumns (s : Block) : mixColumns (invMixColumns s) = s :=
  rightInverse_of_leftInverse invMixColumns_mixColumns s

theorem cipher_invCipher (b : Block) (rk : RoundKeys) : cipher (invCipher b rk) rk = b :=
  rightInverse_of_leftInverse (f := (cipher · rk)) (g := (invCipher · rk)) (invCipher_cipher · rk) b

/-! ### The obligations -/

/-- Settles O27: the S-boxes are inverse bytewise, the rotations are opposite, and MI · MF is the unit matrix, which
makes MF · MI one too. -/
theorem inverseStagesUndoForward : Obligations.InverseStagesUndoForward := by
  unfold Obligations.InverseStagesUndoForward
  exact fun s => ⟨invSubBytes_subBytes s, subBytes_invSubBytes s, invShiftRows_shiftRows s, shiftRows_invShiftRows s,
    invMixColumns_mixColumns s, mixColumns_invMixColumns s⟩

/-- Settles O28: InvCipher undoes Cipher round by round, and so Cipher undoes InvCipher. -/
theorem inverseCipherUndoesCipher : Obligations.InverseCipherUndoesCipher := by
  unfold Obligations.InverseCipherUndoesCipher
  exact fun b rk => ⟨invCipher_cipher b rk, cipher_invCipher b rk⟩

/-- Settles O30: ENC_BLOCK leaves MODE, the request and the schedule as they are, so DEC_BLOCK runs its rule (O21) with
the same round keys. -/
theorem decBlockUndoesEncBlock : Obligations.DecBlockUndoesEncBlock := by
  unfold Obligations.DecBlockUndoesEncBlock
  intro s hm hq hk
  have henc := ((blockCommandsTransformDin s hm hq).1 hk).1
  set t : State := { s with st := cipher (w2b s.din) s.rk, dout := b2w (cipher (w2b s.din) s.rk) }
  have hdec := ((blockCommandsTransformDin { t with din := t.dout } hm hq).1 hk).2
  refine ⟨t, _, henc, hdec, ?_⟩
  change b2w (invCipher (w2b (b2w (cipher (w2b s.din) s.rk))) s.rk) = s.din
  rw [w2b_b2w, invCipher_cipher, b2w_w2b]

end Sys2Proof.Machine
end

section
/-! The control commands and the host's register accesses (45_control.md R340 to R344). -/

namespace Sys2Proof.Machine

/-! ### The accesses the register map admits (10_state.md R32; 20_memory.md R81) -/

/-- The register map finds each register at its own offset. -/
@[simp] theorem regAt_regOffset (r : Reg) : regAt (regOffset r) = some r := by
  cases r with
  | ctrl | status | cmd | errinfo => rfl
  | din k | dout k | keyin k => fin_cases k <;> rfl

theorem regOffset_aligned (r : Reg) : regOffset r % 4 = 0 := by
  cases r <;> simp only [regOffset] <;> omega

/-- A 32-bit access at a register's offset is that register's access. -/
theorem access_regOffset (r : Reg) (act : Reg → State) : access (regOffset r) 4 act = .next (act r) :=
  access_of_regAt_some (regOffset_aligned r) (regAt_regOffset r) act

theorem hostStep_read (r : Reg) (s : State) : hostStep (.read (regOffset r) 4) s = .next (hostRead r s) :=
  access_regOffset r _

/-- Outside the busy window a write reaches its register (45_control.md R344). -/
theorem hostStep_write_of_notBusy {s : State} (hb : s.busy = false) (r : Reg) (v : Word) :
    hostStep (.write (regOffset r) 4 v) s = .next (storeReg r v s) := by
  have hwrite : hostWrite r v s = storeReg r v s := by simp [hostWrite, hb]
  rw [← hwrite]
  exact access_regOffset r _

/-! ### What a read returns (45_control.md R343) -/

/-- Only a DOUT read in the busy window takes a free value (70_reset_and_hazards.md R411). -/
theorem readDraws_iff (r : Reg) (s : State) : readDraws r s = true ↔ s.busy = true ∧ ∃ k, r = .dout k := by
  cases r <;> simp [readDraws]

theorem readReg_dout_of_notBusy {s : State} (hb : s.busy = false) (k : Fin 4) :
    readReg (.dout k) s = quadGet s.dout k := by
  simp [readReg, hb]

/-- CTRL reads as its one defined bit (10_state.md R33). -/
theorem ctrlWord_eq (s : State) : ctrlWord s = if s.lenpol then 0x00000001 else 0x00000000 := by
  unfold ctrlWord
  cases s.lenpol <;> rfl

/-! ### The obligations -/

/-- Settles O48: each offset is a register's own, and while BUSY = 0 its write stores. -/
theorem hostWriteStores : Obligations.HostWriteStores := by
  unfold Obligations.HostWriteStores
  intro v s hb
  have hstore (r : Reg) := hostStep_write_of_notBusy hb r v
  refine ⟨hstore .ctrl, hstore .cmd, fun k => ?_, fun k => hstore (.keyin k), fun off hoff => ?_⟩
  · exact ⟨hstore (.din k), quadGet_set_same s.din k v, fun j hj => quadGet_set_ne s.din v hj⟩
  · simp only [List.mem_cons, List.not_mem_nil, or_false] at hoff
    obtain rfl | rfl | rfl | rfl | rfl | rfl := hoff
    · exact hstore .status
    · exact hstore .errinfo
    · exact hstore (.dout 0)
    · exact hstore (.dout 1)
    · exact hstore (.dout 2)
    · exact hstore (.dout 3)

/-- Settles O49: a read adds to the record of reads and, of a DOUT register in the busy window, to the count of free
values. -/
theorem hostReadsHaveNoSideEffect : Obligations.HostReadsHaveNoSideEffect := by
  unfold Obligations.HostReadsHaveNoSideEffect
  refine fun r s => ⟨?_, fun k => ⟨rfl, rfl, fun hb => readReg_dout_of_notBusy hb k⟩, rfl, rfl, ctrlWord_eq s⟩
  rw [hostStep_read, hostRead]
  simp only [readDraws_iff]

/-- Settles O11: NOP is legal in every state, and its rule does nothing. -/
theorem nopChangesNothing : Obligations.NopChangesNothing := by
  unfold Obligations.NopChangesNothing
  exact fun s => exec_eq_resume (i := .nop) nofun rfl rfl

/-- Settles O12: CLR_ERR is legal in every state, and its rule clears the latch. -/
theorem clrErrClearsTheLatch : Obligations.ClrErrClearsTheLatch := by
  unfold Obligations.ClrErrClearsTheLatch
  exact fun s => exec_eq_resume (i := .clrErr) nofun rfl rfl

/-- Settles O13: ABORT is legal in every state, and its rule drops the request, the session, the schedule and KEYIN. -/
theorem abortReturnsToIdle : Obligations.AbortReturnsToIdle := by
  unfold Obligations.AbortReturnsToIdle
  exact fun s => exec_eq_resume (i := .abort) nofun rfl rfl

end Sys2Proof.Machine
end

section
/-! The error latch, the idle step and the busy window (60_exceptions.md R362, R366, R381; 70_reset_and_hazards.md
R410). -/

namespace Sys2Proof.Machine

/-! ### A latched error stays (60_exceptions.md R362) -/

/-- The error latch of `t` is that of `s`. -/
def SameLatch (s t : State) : Prop := t.err = s.err ∧ t.errinfo = s.errinfo

theorem SameLatch.of_raise {s : State} (he : s.err ≠ .none) (e : ErrCode) (info : Word) :
    SameLatch s (raise e info s) := by
  rw [raise_of_latched he]
  exact ⟨rfl, rfl⟩

/-- Only CLR_ERR's rule writes a latch that is set: KEY_FAIL and DEC_END raise, which a set latch ignores. -/
theorem RunsTo.sameLatch {i : Instr} {s t : State} (h : RunsTo i s t) (he : s.err ≠ .none) (hi : i ≠ .clrErr) :
    SameLatch s t := by
  cases h with
  | clrErr => exact absurd rfl hi
  | keyFailIdle | keyFailSession => exact .of_raise he .key s.pend
  | decEndReject => exact .of_raise he .length (s.dcnt.setWidth 32)
  | decByteFull => simp [SameLatch, decryptFull_eq]
  | decEndEmpty => simp [SameLatch, finishDecode_eq]
  | decEndTail => simp [SameLatch, finishDecode_eq, holdBack_eq]
  | _ => exact ⟨rfl, rfl⟩

/-- The command that KEY_EXPAND resumes uses the schedule, so it is not CLR_ERR. -/
theorem ExecTo.sameLatch {i : Instr} {s t : State} (h : ExecTo i s t) (hinv : s.Inv) (he : s.err ≠ .none)
    (hi : i ≠ .clrErr) : SameLatch s t := by
  cases h with
  | illegal | badOperand => exact .of_raise he _ _
  | rule _ _ _ hr => exact hr.sameLatch he hi
  | resumed hreq hj hr =>
    obtain ⟨j, hdecode, -, -, hu⟩ := waitsForKey_iff.mp (hinv.waiting hreq)
    cases hj.symm.trans (instrOf_of_decode hdecode)
    exact hr.sameLatch he (by rintro rfl; cases hu)

/-- No register's store reaches the latch: ERRINFO is read-only (45_control.md R344). -/
theorem storeReg_sameLatch (r : Reg) (v : Word) (s : State) : SameLatch s (storeReg r v s) := by
  cases r <;> exact ⟨rfl, rfl⟩

theorem hostWrite_sameLatch (r : Reg) (v : Word) {s : State} (he : s.err ≠ .none) :
    SameLatch s (hostWrite r v s) := by
  unfold hostWrite
  split
  · exact .of_raise he _ _
  · exact storeReg_sameLatch r v s

/-- Settles O10: a set latch ignores every raise, and only CLR_ERR's rule writes it otherwise. -/
theorem firstErrorIsKept : Obligations.FirstErrorIsKept := by
  unfold Obligations.FirstErrorIsKept
  refine ⟨fun e info s => ⟨raise_of_clear, raise_of_latched⟩, fun i s t hinv he hi h => ?_, fun r v s he => ?_⟩
  · exact (execTo_of_exec h).sameLatch hinv he hi
  · exact hostWrite_sameLatch r v he

/-! ### The outside world's step (60_exceptions.md R381; log entry 2) -/

theorem outsideStep_of_nil {s : State} (h : s.host = []) : outsideStep s = .next s := by
  rw [outsideStep, h]

theorem outsideStep_of_cons {s : State} {a : HostAction} {rest : List HostAction} (h : s.host = a :: rest) :
    outsideStep s = hostStep a { s with host := rest } := by
  rw [outsideStep, h]

/-- Settles O7: with BUSY = 0 or with its turn the outside world takes its oldest action. -/
theorem stepHoldsWhenIdle : Obligations.StepHoldsWhenIdle := by
  unfold Obligations.StepHoldsWhenIdle
  refine ⟨fun s hb hh => ?_, fun s a rest hh hturn => ?_, fun _ => coreTurn_eq_false_iff, fun _ => rfl, fun _ _ => rfl⟩
  · exact (step_of_outside (.inl hb)).trans (outsideStep_of_nil hh)
  · have houtside : s.busy = false ∨ coreTurn s.host = false :=
      hturn.imp_right fun ha => coreTurn_eq_false_iff.mpr ⟨a, rest, hh, ha⟩
    exact (step_of_outside houtside).trans (outsideStep_of_cons hh)

/-! ### Host writes in the busy window (60_exceptions.md R366; 70_reset_and_hazards.md R410) -/

theorem hostStep_write_regOffset (r : Reg) (v : Word) (s : State) :
    hostStep (.write (regOffset r) 4 v) s = .next (hostWrite r v s) :=
  access_regOffset r _

theorem hostWrite_of_guarded {r : Reg} (hg : busyGuarded r = true) (v : Word) {s : State} (hb : s.busy = true) :
    hostWrite r v s = raise .busy (BitVec.ofNat 32 (regOffset r)) s := by
  simp [hostWrite, hg, hb]

/-- The registers that the busy window does not guard are read-only (20_memory.md R82). -/
theorem hostWrite_of_not_guarded {r : Reg} (hg : busyGuarded r = false) (v : Word) (s : State) :
    hostWrite r v s = s := by
  cases r with
  | status | errinfo | dout => rfl
  | ctrl | cmd | din | keyin => cases hg

/-- A register known by what the map holds at an offset. -/
theorem exists_reg_of_guard {off : Nat} {g : Bool} (h : (regAt off).map busyGuarded = some g) :
    ∃ r, regOffset r = off ∧ busyGuarded r = g := by
  obtain ⟨r, hr, hg⟩ := Option.map_eq_some_iff.mp h
  exact ⟨r, regOffset_of_regAt hr, hg⟩

theorem guarded_offsets : ∀ off ∈ [0x00, 0x08, 0x10, 0x14, 0x18, 0x1C, 0x30, 0x34, 0x38, 0x3C],
    (regAt off).map busyGuarded = some true := by decide

theorem unguarded_offsets : ∀ off ∈ [0x04, 0x0C, 0x20, 0x24, 0x28, 0x2C],
    (regAt off).map busyGuarded = some false := by decide

/-- Settles O47: each offset is a register's own; a guarded register's write only raises, a read-only one's does
nothing. -/
theorem busyWindowDropsWrites : Obligations.BusyWindowDropsWrites := by
  unfold Obligations.BusyWindowDropsWrites
  refine fun off v s hb => ⟨fun hoff => ?_, fun hoff => ?_⟩
  · obtain ⟨r, rfl, hg⟩ := exists_reg_of_guard (guarded_offsets off hoff)
    rw [hostStep_write_regOffset, hostWrite_of_guarded hg v hb, raise]
  · obtain ⟨r, rfl, hg⟩ := exists_reg_of_guard (unguarded_offsets off hoff)
    rw [hostStep_write_regOffset, hostWrite_of_not_guarded hg]

end Sys2Proof.Machine
end

section
/-! Reset, and the progress of the core step (70_reset_and_hazards.md R400 to R402, R421). -/

namespace Sys2Proof.Machine

/-! ### A rule always answers a next state (70_reset_and_hazards.md R421) -/

theorem exists_next_of_needSchedule (i : Instr) (s t : State) : ∃ u, needSchedule i s (.next t) = .next u := by
  cases hk : s.ksv with
  | true => exact ⟨t, needSchedule_of_valid hk⟩
  | false => exact ⟨_, needSchedule_of_absent hk⟩

/-- A rule whose operand is in range either asks for the schedule first, or has a branch that answers at once. -/
theorem exists_next_of_resume {i : Instr} (ho : operandOk i = true) (s : State) : ∃ t, resume i s = .next t := by
  by_cases hn : needsBlock i s = true
  · obtain ⟨t, ht⟩ := resume_eq_needSchedule ho hn
    rw [ht]
    exact exists_next_of_needSchedule i s t
  · cases i with
    | encBlock | decBlock | stAddrk => exact absurd rfl hn
    | rkRead r =>
      obtain ⟨k, hk⟩ := exists_roundKeyAt s.rk (of_decide_eq_true ho)
      exact ⟨_, runRkRead_of_roundKeyAt hk⟩
    | encByte | encEol => exact ⟨_, push_of_room fun hc => hn (decide_eq_true hc)⟩
    | encEnd => exact ⟨_, runEncEnd_of_empty (by simpa [needsBlock] using hn)⟩
    | decByte => exact ⟨_, runDecByte_of_room fun hc => hn (decide_eq_true hc)⟩
    | decEnd =>
      have hreject : s.dcnt ≠ 0 → s.lenpol = true := by simpa [needsBlock] using hn
      by_cases hd : s.dcnt = 0
      · exact ⟨_, runDecEnd_of_empty hd⟩
      · exact ⟨_, runDecEnd_of_reject hd (hreject hd)⟩
    | _ => exact ⟨_, rfl⟩

/-- What KEY_EXPAND resumes has passed its operand check (42_key_schedule.md R242). -/
theorem exists_next_of_runKeyExpand {s : State} (hinv : s.Inv) : ∃ t, runKeyExpand s = .next t := by
  cases hq : s.keyReq with
  | false => exact ⟨_, runKeyExpand_of_noRequest hq⟩
  | true =>
    obtain ⟨j, hj, -, ho, -⟩ := waitsForKey_iff.mp (hinv.waiting hq)
    rw [runKeyExpand_of_request hq hj]
    exact exists_next_of_resume ho _

theorem exists_next_of_ownRule {i : Instr} {s : State} (hinv : s.Inv) (ho : operandOk i = true) :
    ∃ t, ownRule i s = .next t := by
  unfold ownRule
  split
  · exact exists_next_of_runKeyExpand hinv
  · exact exists_next_of_resume ho s

/-- A check that fails raises an error, and one that passes leaves an operand in range to the rule. -/
theorem exists_next_of_exec (i : Instr) {s : State} (hinv : s.Inv) : ∃ t, exec i s = .next t := by
  rw [exec_eq_checked]
  cases hl : legal i s.mode s.keyReq with
  | false => exact ⟨_, checked_of_illegal hl⟩
  | true =>
    cases ho : operandOk i with
    | false => exact ⟨_, checked_of_operand hl ho⟩
    | true =>
      rw [checked_of_passes hl ho]
      exact exists_next_of_ownRule hinv ho

theorem exists_next_of_coreStep {s : State} (hinv : s.Inv) : ∃ t, coreStep s = .next t := by
  unfold coreStep
  split
  · exact ⟨_, rfl⟩
  next i _ => exact exists_next_of_exec i hinv.takeCommand

/-- Taking the command clears BUSY, and neither an error nor a command sets it (30_encoding.md R118). -/
theorem busy_and_host_of_coreStep {s t : State} (h : coreStep s = .next t) : t.busy = false ∧ t.host = s.host := by
  obtain ⟨why, -, rfl⟩ | ⟨i, -, he⟩ := coreStep_next h
  · exact ⟨rfl, rfl⟩
  · obtain ⟨-, -, hbusy, -, hhost, -⟩ := (execTo_of_exec he).sameHostSide
    exact ⟨hbusy, hhost⟩

/-! ### KEY_EXPAND's two faults (log entry 10) -/

theorem exec_keyExpand_of_keyReq {s : State} (hq : s.keyReq = true) :
    exec .keyExpand s = resumeWord s.pend (dropRequest (loadSchedule s)) := by
  have hl : legal .keyExpand s.mode s.keyReq = true := by rw [hq]; rfl
  exact (checked_of_passes hl rfl).trans (if_pos hq)

theorem resumeWord_of_instrOf_none {w : Word} (h : instrOf (opField w) (argField w) = none) (s : State) :
    resumeWord w s = .fault .pendNamesNoCommand := by
  rw [resumeWord, h]

theorem resumeWord_of_instrOf_some {w : Word} {i : Instr} (h : instrOf (opField w) (argField w) = some i)
    (s : State) : resumeWord w s = resume i s := by
  rw [resumeWord, h]

/-- RK[10] is the last round key (10_state.md R41). -/
theorem roundKeyAt_eq_none (rk : RoundKeys) {r : Nat} (hr : 10 < r) : roundKeyAt rk r = none := by
  obtain ⟨n, rfl⟩ := Nat.exists_eq_add_of_le' hr
  rfl

theorem runRkRead_of_gt {r : Byte} (hr : 10 < r.toNat) (s : State) : runRkRead r s = .fault .noSuchRoundKey := by
  rw [runRkRead, roundKeyAt_eq_none s.rk hr]

theorem runStAddrk_of_gt {r : Byte} (hr : 10 < r.toNat) {s : State} (hk : s.ksv = true) :
    runStAddrk r s = .fault .noSuchRoundKey := by
  rw [runStAddrk, needSchedule_of_valid hk, roundKeyAt_eq_none s.rk hr]

/-- Settles O45: a failed check and every branch of every rule answer a next state, and the command that KEY_EXPAND
resumes has an operand in range; without the invariant PEND may name no command or no round key. -/
theorem coreStepAlwaysCompletes : Obligations.CoreStepAlwaysCompletes := by
  unfold Obligations.CoreStepAlwaysCompletes
  refine ⟨fun s hinv hb ht => ?_, fun s hq => ?_⟩
  · obtain ⟨t, hstep⟩ := exists_next_of_coreStep hinv
    exact ⟨t, (step_of_core hb ht).trans hstep, busy_and_host_of_coreStep hstep⟩
  · rw [exec_keyExpand_of_keyReq hq]
    refine ⟨fun hnone => resumeWord_of_instrOf_none hnone _, fun r hr hpend => ?_⟩
    obtain hrk | hst := hpend
    · exact (resumeWord_of_instrOf_some hrk _).trans (runRkRead_of_gt hr _)
    · exact (resumeWord_of_instrOf_some hst _).trans (runStAddrk_of_gt hr rfl)

/-! ### Reset (70_reset_and_hazards.md R400 to R402) -/

theorem readReg_reset (r : Reg) : readReg r State.reset = 0x00000000 := by
  cases r with
  | ctrl | status | cmd | errinfo | keyin => rfl
  | din k | dout k => fin_cases k <;> rfl

/-- The reset state is what the reset input makes of it, so both stand in the form `resetCore u`. -/
theorem exists_eq_resetCore {s t : State} (h : t = State.reset ∨ hostStep .reset s = .next t) :
    ∃ u, t = resetCore u := by
  obtain rfl | h := h
  · exact ⟨State.reset, rfl⟩
  · cases h
    exact ⟨s, rfl⟩

/-- STATUS shows only elements of the core, which the reset input gives their values in the reset state. -/
theorem statusWord_resetCore (s : State) : statusWord (resetCore s) = 0x00000000 := readReg_reset .status

/-- Settles O46: the reset input gives every element of the core the value it has in the reset state. -/
theorem resetValues : Obligations.ResetValues := by
  unfold Obligations.ResetValues
  refine ⟨readReg_reset, fun s => ⟨resetCore s, rfl, rfl, rfl⟩, fun s t ht => ?_⟩
  obtain ⟨u, rfl⟩ := exists_eq_resetCore ht
  exact ⟨rfl, rfl, rfl, rfl, rfl, rfl, rfl, rfl, rfl, rfl, rfl, rfl, rfl, rfl, rfl, rfl, rfl, rfl, rfl, rfl, rfl,
    statusWord_resetCore u⟩

end Sys2Proof.Machine
end
